-- ==== Sys2Proof/Word.lean ====
section
/-! DEFINITION. The word of MTC and its plainest operations (R7, R8): a word and its bit vector are
the same 32 wires, numbered by significance. -/

namespace Sys2Proof

/-- An unsigned 32-bit word (R8). -/
abbrev Word := BitVec 32

/-- One byte lane of the bus (R42). -/
abbrev Byte := BitVec 8

end Sys2Proof
end

