-- ==== Sys2Proof/Syntax.lean ====
section
/-! DEFINITION. The command set of MTC: one constructor per row of the opcode map (R59). -/

namespace Sys2Proof

/-- A command of MTC. Data operands are never part of it (R58): only the fields SH (formats S), W
(format W) and FM (format F) are. SH and W are plain numbers, read unsigned and unscaled (R58). -/
inductive Instr
  | and
  | or
  | xor
  | shl (sh : Nat)
  | shr (sh : Nat)
  | xshr (sh : Nat)
  | xshl (sh : Nat)
  | ixshr (sh : Nat)
  | ixshl (sh : Nat)
  | temper
  | untemper
  | submit
  | submitp (width : Nat)
  | check (fm : Bool)
  | clear
  | twist
  | untwist
  | predict
  | offset
  deriving DecidableEq, Repr

end Sys2Proof
end

