-- ==== Sys2Proof/WellFormed.lean ====
section
/-! DEFINITION. Which commands an encoding exists for (R58): SH in 0..31, W in 0..65535. -/

namespace Sys2Proof

/-- A shift amount that the 5-bit field SH can hold (R55, R58). -/
abbrev ShiftFits (sh : Nat) : Prop := sh < 32

/-- A width that the 16-bit field W can hold (R56, R58). -/
abbrev WidthFits (width : Nat) : Prop := width < 65536

/-- The check: the command can be encoded. W = 0 and the multiples of 32 are legal encodings,
refused only when they run (R62). -/
def Instr.wellFormed (i : Instr) : Bool :=
  match i with
  | .shl sh | .shr sh | .xshr sh | .xshl sh | .ixshr sh | .ixshl sh => decide (ShiftFits sh)
  | .submitp width => decide (WidthFits width)
  | .and | .or | .xor | .temper | .untemper | .submit | .check _ | .clear => true
  | .twist | .untwist | .predict | .offset => true

/-- The command passes the check. -/
abbrev Instr.WellFormed (i : Instr) : Prop := i.wellFormed = true

end Sys2Proof
end

