-- ==== Sys2Proof/Decode.lean ====
section
/-! DEFINITION. The command decoder (R52 to R61), the encoder, and the host's entry to the decoder. -/

namespace Sys2Proof

/-- Why a word is no command (R61). -/
inductive IllegalWord
  /-- R61 (a): bits [31:24] hold no opcode of R59. -/
  | unassignedOpcode (opc : BitVec 8)
  /-- R61 (b): the opcode is assigned, and a bit that its format reserves is 1. -/
  | reservedBitSet (opc : BitVec 8)
  deriving DecidableEq, Repr

/-- OPC, bits [31:24] (R53). -/
def opcField (w : Word) : BitVec 8 := w.extractLsb' 24 8

/-- SH = zext(w[20:16]) (R55, R58). -/
def shField (w : Word) : Nat := (w.extractLsb' 16 5).toNat

/-- W = zext(w[15:0]) (R56, R58). -/
def wField (w : Word) : Nat := (w.extractLsb' 0 16).toNat

/-- FM = w[0] (R57, R58). -/
def fmField (w : Word) : Bool := w.getLsbD 0

/-- A row of the opcode map: the two words that select it, and the command it reads (R59). -/
structure OpcodeRow where
  pattern : Word
  mask : Word
  build : Word → Instr

/-- `(w & mask) == match` (R59). -/
def OpcodeRow.selects (r : OpcodeRow) (w : Word) : Bool := w &&& r.mask == r.pattern

/-- The mask of format N: every bit is fixed (R54). -/
abbrev maskN : Word := 0xFFFFFFFF

/-- The mask of format S: all but SH (R55). -/
abbrev maskS : Word := 0xFFE0FFFF

/-- The mask of format W: all but W (R56). -/
abbrev maskW : Word := 0xFFFF0000

/-- The mask of format F: all but FM (R57). -/
abbrev maskF : Word := 0xFFFFFFFE

/-- The complete opcode map (R59), in its order. -/
def opcodeMap : List OpcodeRow :=
  [ ⟨0x01000000, maskN, fun _ => .and⟩,
    ⟨0x02000000, maskN, fun _ => .or⟩,
    ⟨0x03000000, maskN, fun _ => .xor⟩,
    ⟨0x04000000, maskS, fun w => .shl (shField w)⟩,
    ⟨0x05000000, maskS, fun w => .shr (shField w)⟩,
    ⟨0x10000000, maskS, fun w => .xshr (shField w)⟩,
    ⟨0x11000000, maskS, fun w => .xshl (shField w)⟩,
    ⟨0x12000000, maskS, fun w => .ixshr (shField w)⟩,
    ⟨0x13000000, maskS, fun w => .ixshl (shField w)⟩,
    ⟨0x14000000, maskN, fun _ => .temper⟩,
    ⟨0x15000000, maskN, fun _ => .untemper⟩,
    ⟨0x20000000, maskN, fun _ => .submit⟩,
    ⟨0x21000000, maskW, fun w => .submitp (wField w)⟩,
    ⟨0x22000000, maskF, fun w => .check (fmField w)⟩,
    ⟨0x23000000, maskN, fun _ => .clear⟩,
    ⟨0x30000000, maskN, fun _ => .twist⟩,
    ⟨0x31000000, maskN, fun _ => .untwist⟩,
    ⟨0x40000000, maskN, fun _ => .predict⟩,
    ⟨0x41000000, maskN, fun _ => .offset⟩ ]

/-- Whether the opcode map assigns the opcode to some row (R59). -/
def assignedOpcode (opc : BitVec 8) : Bool := opcodeMap.any fun r => opcField r.pattern == opc

/-- The total decoder (R60): the row that selects the word, or why no row does. -/
def decode (w : Word) : Except IllegalWord Instr :=
  match opcodeMap.find? (fun r => r.selects w) with
  | some r => .ok (r.build w)
  | none =>
    if assignedOpcode (opcField w) then .error (.reservedBitSet (opcField w))
    else .error (.unassignedOpcode (opcField w))

/-- A field with its bit 0 at bit `low` of a word that is zero elsewhere. -/
def placed {n : Nat} (field : BitVec n) (low : Nat) : Word := field.setWidth 32 <<< low

/-- A word of format N: OPC at 31:24 (R54). -/
def formatN (opc : BitVec 8) : Word := placed opc 24

/-- A word of format S: OPC at 31:24, SH at 20:16 (R55). -/
def formatS (opc : BitVec 8) (sh : Nat) : Word := placed opc 24 ||| placed (BitVec.ofNat 5 sh) 16

/-- A word of format W: OPC at 31:24, W at 15:0 (R56). -/
def formatW (opc : BitVec 8) (width : Nat) : Word :=
  placed opc 24 ||| placed (BitVec.ofNat 16 width) 0

/-- A word of format F: OPC at 31:24, FM at bit 0 (R57). -/
def formatF (opc : BitVec 8) (fm : Bool) : Word := placed opc 24 ||| placed (BitVec.ofBool fm) 0

/-- The opcode of a command (R59). -/
def Instr.opcode (i : Instr) : BitVec 8 :=
  match i with
  | .and => 0x01
  | .or => 0x02
  | .xor => 0x03
  | .shl _ => 0x04
  | .shr _ => 0x05
  | .xshr _ => 0x10
  | .xshl _ => 0x11
  | .ixshr _ => 0x12
  | .ixshl _ => 0x13
  | .temper => 0x14
  | .untemper => 0x15
  | .submit => 0x20
  | .submitp _ => 0x21
  | .check _ => 0x22
  | .clear => 0x23
  | .twist => 0x30
  | .untwist => 0x31
  | .predict => 0x40
  | .offset => 0x41

/-- The command word of a command (R54 to R59); it is decoded back only where the command is
well-formed. -/
def encode (i : Instr) : Word :=
  match i with
  | .shl sh | .shr sh | .xshr sh | .xshl sh | .ixshr sh | .ixshl sh => formatS i.opcode sh
  | .submitp width => formatW i.opcode width
  | .check fm => formatF i.opcode fm
  | .and | .or | .xor | .temper | .untemper | .submit | .clear => formatN i.opcode
  | .twist | .untwist | .predict | .offset => formatN i.opcode

/-- The command the decoder reads from a table word of `nbits` bits (the host's entry). A command is
one 32-bit word, so the bits above `nbits` are 0, and a number that needs more than 32 bits is no
command word (R52). -/
def decodeTableWord (nbits w : Nat) : Option Instr :=
  if w % 2 ^ nbits < 2 ^ 32 then (decode (BitVec.ofNat 32 (w % 2 ^ nbits))).toOption else none

end Sys2Proof
end

