-- ==== Sys2Proof/Machine/Port.lean ====
section
/-! DEFINITION. What passes over the bus port of MTC, as plain data: an access, its response, and
the events by which the world outside acts on the block (R34, R41, R124, R130, D3). -/

namespace Sys2Proof.Machine

/-- One bus access to the register window. The port carries a 13-bit byte offset (R34, D3); `bits` is
the access width in bits, of which 32 is the only legal one (R43); the port carries 32 bits of write
data (D3). -/
inductive Access
  | read (offset : BitVec 13) (bits : Nat)
  | write (offset : BitVec 13) (bits : Nat) (value : Word)
  deriving DecidableEq, Repr

/-- The response to one access: OK, which for a read carries the word read, or BUSERR, which carries
no word (R40, R41). -/
inductive Response
  | ok
  | data (w : Word)
  | busErr
  deriving DecidableEq, Repr

/-- What the outside does to the block, in the order in which it does it (R47 (a), R134). -/
inductive HostEvent
  /-- One bus access (R34). -/
  | access (a : Access)
  /-- The polling loop of R130: read STATUS again and again until its BUSY bit reads 0. -/
  | poll
  /-- The reset input is asserted and released, with the bus access that was in progress, if one was
  (R124). Power removal ends in the same event (R118). -/
  | reset (interrupted : Option Access)
  deriving DecidableEq, Repr

end Sys2Proof.Machine
end

