-- ==== Sys2Proof/Config.lean ====
section
/-! DEFINITION. What the spec leaves open (00_scope.md R6, 93_implementation_defined.md): the base
address, and the free values. Every constant here is opaque: nothing can prove a value of it. -/

namespace Sys2Proof.Config

/-- BASE is OPEN and 8 KiB aligned (R45): the window is the page of this number. -/
opaque basePage : Nat

/-- BASE, the platform's address of the window (R34, R45). -/
def base : Nat := 8192 * basePage

/-- The word an unspecified read returns, a fresh draw per read: the argument numbers the draw
(R131, 93 row 4). A FREE VALUE. -/
opaque freeWord (draw : Nat) : Word

/-- LAT: how many host accesses can come between a CMD write and the completion of its command, a
fresh finite draw per command (R133, 93 row 5). A FREE VALUE. -/
opaque freeLatency (draw : Nat) : Nat

/-- The response to an access that was in progress when reset was asserted: OK, any word, BUSERR, or
no response at all (R124, 93 row 7). A FREE VALUE. -/
opaque freeResponse (draw : Nat) : Option Response

end Sys2Proof.Config
end

