-- ==== Sys2Proof/Machine/State.lean ====
section
/-! DEFINITION. The state of MTC (R13), as plain data, the state after reset (R123), and the reasons a
step could stop. -/

namespace Sys2Proof.Machine

/-- The state buffer BUF: exactly 624 words (R19). -/
abbrev Buf := Vector Word 624

/-- MODE (R23): 0 is DIRECT, 1 is MATRIX. -/
inductive Mode
  | direct
  | matrix
  deriving DecidableEq, Repr

/-- The state. The first thirteen fields are the record of R13, one field per row. -/
structure State where
  /-- OPA, operand A (R15). -/
  opa : Word
  /-- OPB, operand B, the mask (R16). -/
  opb : Word
  /-- RES, the result (R17). -/
  res : Word
  /-- BUF, raw words, the oldest first (R19). -/
  buf : Buf
  /-- FILL, an integer in 0..624 (R20). -/
  fill : Fin 625
  /-- CURSOR, an integer in 0..624 (R21). -/
  cursor : Fin 625
  /-- LEDGER, the accumulated bits (R22). -/
  ledger : Word
  /-- MODE (R23). -/
  mode : Mode
  /-- READY (R24). -/
  ready : Bool
  /-- FATAL (R25). -/
  fatal : Bool
  /-- ERR, the code of the last completed command (R26). -/
  err : BitVec 4
  /-- ERRSEEN (R27). -/
  errSeen : Bool
  /-- BUSY, a command is executing (R28). -/
  busy : Bool
  /-- The command word in flight (R33 (b), R134); it means something only while BUSY = 1, and a
  completion leaves it 0, since the word is not retained (R107). -/
  pending : Word
  /-- The model's own: how many host events may still come before the command in flight completes,
  what is left of its LAT draw (R133). -/
  latency : Nat
  /-- The model's own: what the host and the reset input will do, in that order (R47 (a), R134). -/
  inputs : List HostEvent
  /-- The model's own: the response to the last bus access, none if there was none (R41). -/
  response : Option Response
  /-- The model's own: how many free values have been drawn (R131, R133). -/
  draws : Nat
  deriving DecidableEq, Repr

/-- Why the machine would stop. There is no such reason: an error of a command is a result code (R107,
R111) and an error of an access is a response (R41, R121). Safe: nothing is stopped. -/
inductive Fault
  deriving DecidableEq, Repr

/-- Why the model would give no meaning. -/
inductive Refusal
  /-- The host's name for an instruction without a meaning. No arm of `exec` raises it. Safe. -/
  | notModelled (mnemonic : String)
  deriving DecidableEq, Repr

/-- The empty buffer: every word 0 (R123). -/
def Buf.zero : Buf := Vector.replicate 624 0

/-- The state after reset (R123), with no host event waiting. The last five fields are the model's
own; their values are DESIGN CHOICES (notes/assumptions/6.md). -/
def State.reset : State where
  opa := 0
  opb := 0
  res := 0
  buf := Buf.zero
  fill := 0
  cursor := 0
  ledger := 0
  mode := .direct
  ready := false
  fatal := false
  err := 0
  errSeen := false
  busy := false
  pending := 0
  latency := 0
  inputs := []
  response := none
  draws := 0

end Sys2Proof.Machine
end

