-- ==== Sys2Proof/Machine/Params.lean ====
section
/-! DEFINITION. The fixed constants of MTC (R6) and its identity (R31). None is configurable (R2). -/

namespace Sys2Proof.Machine

/-- N, the words of the state buffer (R6). -/
abbrev bufWords : Nat := 624

/-- M, the middle-word offset of the recurrence (R6). -/
abbrev middle : Nat := 397

/-- UPPER, the upper bit of a word (R6). -/
abbrev upperMask : Word := 0x80000000

/-- LOWER, the lower 31 bits of a word (R6). -/
abbrev lowerMask : Word := 0x7FFFFFFF

/-- A, the twist constant. The spec states the value in R6 and marks it as general knowledge (K1);
see notes/assumptions/9.md. -/
abbrev twistConstant : Word := 0x9908B0DF

/-- TH, the bits needed for readiness: N times 32 (R6). -/
abbrev threshold : Nat := 19968

/-- The largest LEDGER value (R22). -/
abbrev ledgerMax : Nat := 0xFFFFFFFF

/-- The mask of T1 and T4: no mask (R6). -/
abbrev fullMask : Word := 0xFFFFFFFF

/-- The mask of T2 (R6). -/
abbrev temperMask2 : Word := 0x9D2C5680

/-- The mask of T3 (R6). -/
abbrev temperMask3 : Word := 0xEFC60000

/-- The constant that the ID register reads: ASCII "MT19" (R31). -/
abbrev idValue : Word := 0x4D543139

end Sys2Proof.Machine
end

