-- ==== Sys2Proof/Machine/Flags.lean ====
section
/-! DEFINITION. The result codes (R107) and the STATUS register (R29). -/

namespace Sys2Proof.Machine

/-- How a command completes (R107). -/
inductive ResultCode
  | ok
  | insufficientData
  | invariantViolation
  | matrixUnimplemented
  | illegalCommand
  | badOperand
  | wrongState
  deriving DecidableEq, Repr

/-- The code STATUS.ERR holds (R107). -/
def ResultCode.code (c : ResultCode) : BitVec 4 :=
  match c with
  | .ok => 0
  | .insufficientData => 1
  | .invariantViolation => 2
  | .matrixUnimplemented => 3
  | .illegalCommand => 4
  | .badOperand => 5
  | .wrongState => 6

/-- The bit MODE reads as (R23, R29). -/
def Mode.bit (m : Mode) : BitVec 1 :=
  match m with
  | .direct => 0
  | .matrix => 1

/-- FULL: FILL = 624, stored nowhere else (R29). -/
def State.full (s : State) : Bool := s.fill.val == bufWords

/-- STATUS (R29): ERR at 3:0, READY at 4, MODE at 5, FULL at 6, FATAL at 7, ERRSEEN at 8, BUSY at 9,
zeros above. -/
def State.status (s : State) : Word :=
  placed s.err 0 ||| placed (BitVec.ofBool s.ready) 4 ||| placed s.mode.bit 5 |||
    placed (BitVec.ofBool s.full) 6 ||| placed (BitVec.ofBool s.fatal) 7 |||
    placed (BitVec.ofBool s.errSeen) 8 ||| placed (BitVec.ofBool s.busy) 9

/-- STATUS as it reads while BUSY = 1: bit 9 is 1, every other bit is that of the word given
(R131). -/
def busyStatus (free : Word) : Word := free ||| 0x00000200

end Sys2Proof.Machine
end

