-- ==== Sys2Proof/Machine/Operands.lean ====
section
/-! DEFINITION. The operand forms (R58): a command's data operands are the whole registers OPA and
OPB; OFFSET alone reads OPA as signed. -/

namespace Sys2Proof.Machine

/-- Operand A, all 32 bits (R58). -/
def operandA (s : State) : Word := s.opa

/-- Operand B, the mask of the shift-XOR steps, all 32 bits (R58). -/
def operandB (s : State) : Word := s.opb

/-- OFFSET's n = sext_32(OPA), in [-2^31, 2^31 - 1] (R58, R104). -/
def offsetOperand (s : State) : Int := s.opa.toInt

/-- The width a SUBMITP may not carry: 0 and the multiples of 32 (R88). -/
def wordMultiple (width : Nat) : Bool := width == 0 || width % 32 == 0

end Sys2Proof.Machine
end

