-- ==== Sys2Proof/Machine/Ops.lean ====
section
/-! DEFINITION. The named operations over the registers and BUF, and how a command completes (R108):
MTC's counterpart of taking an exception, since an error is a result code and not a trap (R111). -/

namespace Sys2Proof.Machine

/-- BUF[k], the index taken modulo 624 (R9, R19). -/
def Buf.word (b : Buf) (k : Nat) : Word := b[k % bufWords]'(Nat.mod_lt k (by decide))

/-- BUF[k] <- v, the index taken modulo 624 (R9, R19). -/
def Buf.put (b : Buf) (k : Nat) (v : Word) : Buf := b.set (k % bufWords) v (Nat.mod_lt k (by decide))

/-- The shift-register step of a push: every word moves one place down, the new word goes to
BUF[623], the old BUF[0] is lost (R86). -/
def Buf.push (b : Buf) (v : Word) : Buf := ⟨(b.toList.tail ++ [v]).toArray, by simp⟩

/-- `sat32(a) = min(a, 0xFFFFFFFF)` on unbounded integers (R86). -/
def sat32 (a : Nat) : Word := BitVec.ofNat 32 (min a ledgerMax)

/-- RES <- w. -/
def State.setRes (s : State) (w : Word) : State := { s with res := w }

/-- BUF <- b. -/
def State.setBuf (s : State) (b : Buf) : State := { s with buf := b }

/-- CURSOR <- c. -/
def State.setCursor (s : State) (c : Fin 625) : State := { s with cursor := c }

/-- READY <- 1 (R24). -/
def State.markReady (s : State) : State := { s with ready := true }

/-- MODE <- MATRIX (R23). -/
def State.toMatrix (s : State) : State := { s with mode := .matrix }

/-- LEDGER <- sat32(LEDGER + bits) (R22). -/
def State.addBits (s : State) (bits : Nat) : State :=
  { s with ledger := sat32 (s.ledger.toNat + bits) }

/-- push(v): the shift of BUF, and FILL <- min(624, FILL + 1) (R86). -/
def State.push (s : State) (v : Word) : State :=
  { s with buf := s.buf.push v, fill := Fin.ofNat 625 (min bufWords (s.fill.val + 1)) }

/-- The controller back in its empty state: what CLEAR sets, but for ERR (R91). -/
def State.emptied (s : State) : State :=
  { s with buf := Buf.zero, fill := 0, cursor := 0, ledger := 0, mode := .direct, ready := false }

/-- The end of every command (R108): ERR, ERRSEEN and FATAL take the result code, and BUSY falls.
The command word is not retained (R107), and nothing is left of its latency. -/
def State.complete (s : State) (c : ResultCode) : State :=
  { s with
    err := c.code
    errSeen := s.errSeen || c != .ok
    fatal := s.fatal || c == .invariantViolation
    busy := false
    pending := 0
    latency := 0 }

/-- The execute procedure around a command's rule (R108): the fatal lock first (R109), then the
command's effect, all of it or nothing, then the completion. An effect that answers a code raises
it. -/
def runCommand (s : State) (effect : State → Except ResultCode State) : State :=
  if s.fatal then s.complete .invariantViolation
  else
    match effect s with
    | .ok s' => s'.complete .ok
    | .error c => s.complete c

/-- A word that decodes to no command completes with ILLEGAL_COMMAND and no other effect, unless the
fatal lock takes precedence (R60, R61, R110). -/
def illegalCommand (s : State) : State := runCommand s fun _ => .error .illegalCommand

/-- The decoded command in flight (R60, R108). -/
def fetch (s : State) : Except IllegalWord Instr := decode s.pending

end Sys2Proof.Machine
end

