-- ==== Sys2Proof/Machine/Bus.lean ====
section
/-! DEFINITION. The register window as the bus sees it: the register map (R35), reads and writes with
BUSY = 0 and BUSY = 1 (R36 to R43, R131), the byte lanes (R42). -/

namespace Sys2Proof.Machine

/-- A register of the window (R35). -/
inductive Register
  | id
  | cmd
  | opa
  | opb
  | res
  | status
  | fill
  | cursor
  | ledger
  | buf (k : Fin 624)
  deriving DecidableEq, Repr

/-- The offset of a register (R35, R36). -/
def Register.offset (r : Register) : BitVec 13 :=
  match r with
  | .id => 0x000
  | .cmd => 0x004
  | .opa => 0x008
  | .opb => 0x00C
  | .res => 0x010
  | .status => 0x014
  | .fill => 0x018
  | .cursor => 0x01C
  | .ledger => 0x020
  | .buf k => BitVec.ofNat 13 (0x1000 + 4 * k.val)

/-- The register at a byte offset; none for a misaligned offset (R43) and for a reserved one (R40). -/
def registerAt (off : Nat) : Option Register :=
  if off % 4 ≠ 0 then none
  else if off = 0x000 then some .id
  else if off = 0x004 then some .cmd
  else if off = 0x008 then some .opa
  else if off = 0x00C then some .opb
  else if off = 0x010 then some .res
  else if off = 0x014 then some .status
  else if off = 0x018 then some .fill
  else if off = 0x01C then some .cursor
  else if off = 0x020 then some .ledger
  else if 0x1000 ≤ off ∧ off ≤ 0x19BC then some (.buf (Fin.ofNat 624 ((off - 0x1000) / 4)))
  else none

/-- The register an access of this width reaches: only 32-bit accesses are legal (R43). -/
def target (offset : BitVec 13) (bits : Nat) : Option Register :=
  if bits = 32 then registerAt offset.toNat else none

/-- What a register reads as while BUSY = 0 (R29 to R31, R35 to R39). -/
def Register.value (r : Register) (s : State) : Word :=
  match r with
  | .id => idValue
  | .cmd => 0
  | .opa => s.opa
  | .opb => s.opb
  | .res => s.res
  | .status => s.status
  | .fill => BitVec.ofNat 32 s.fill.val
  | .cursor => BitVec.ofNat 32 s.cursor.val
  | .ledger => s.ledger
  | .buf k => s.buf.word k.val

/-- What a register reads as while BUSY = 1, from one free word: ID and CMD are specified, STATUS in
bit 9 only, every other read is unspecified (R131). -/
def Register.busyValue (r : Register) (free : Word) : Word :=
  match r with
  | .id => idValue
  | .cmd => 0
  | .status => busyStatus free
  | .opa | .opb | .res | .fill | .cursor | .ledger | .buf _ => free

/-- The response to an access is on the port (R41). -/
def State.respond (s : State) (r : Response) : State := { s with response := some r }

/-- One free value is used up (R131, R133). -/
def State.draw (s : State) : State := { s with draws := s.draws + 1 }

/-- OPA <- v (R38). -/
def State.setOpa (s : State) (v : Word) : State := { s with opa := v }

/-- OPB <- v (R38). -/
def State.setOpb (s : State) (v : Word) : State := { s with opb := v }

/-- A command word is accepted: BUSY <- 1, and its latency is drawn (R37, R133). -/
def State.issue (s : State) (w : Word) : State :=
  { s with busy := true, pending := w, latency := Config.freeLatency s.draws, draws := s.draws + 1 }

/-- A read of a register (R35 to R39, R131). It changes nothing but the response and, where the value
is unspecified, the count of draws (R44 (b)). -/
def readRegister (s : State) (r : Register) : State :=
  if s.busy then (s.respond (.data (r.busyValue (Config.freeWord s.draws)))).draw
  else s.respond (.data (r.value s))

/-- A write to a register (R36 to R39): with BUSY = 1 every write is refused, and CMD, OPA and OPB
are the only registers that take one. -/
def writeRegister (s : State) (r : Register) (v : Word) : State :=
  if s.busy then s.respond .busErr
  else
    match r with
    | .cmd => (s.issue v).respond .ok
    | .opa => (s.setOpa v).respond .ok
    | .opb => (s.setOpb v).respond .ok
    | .id | .res | .status | .fill | .cursor | .ledger | .buf _ => s.respond .busErr

/-- One bus access; an access that reaches no register gets BUSERR and has no effect (R40, R43). -/
def busAccess (s : State) (a : Access) : State :=
  match a with
  | .read offset bits =>
    match target offset bits with
    | some r => readRegister s r
    | none => s.respond .busErr
  | .write offset bits value =>
    match target offset bits with
    | some r => writeRegister s r value
    | none => s.respond .busErr

/-- The data of byte lane b: bits [8b+7:8b], lane 0 the least significant (R42). -/
def lane (w : Word) (b : Fin 4) : Byte := w.extractLsb' (8 * b.val) 8

/-- The word that four byte lanes carry (R42). -/
def ofLanes (lane0 lane1 lane2 lane3 : Byte) : Word :=
  placed lane0 0 ||| placed lane1 8 ||| placed lane2 16 ||| placed lane3 24

/-- The platform's address decoding: the offset into the window at BASE that a host address has, if
it lies in the window (R34, R45). -/
def windowOffset (addr : Nat) : Option (BitVec 13) :=
  if Config.base ≤ addr ∧ addr < Config.base + 8192 then some (BitVec.ofNat 13 (addr - Config.base))
  else none

/-- MemRead(addr, bytes) on the host bus, if it reaches the window (R9, R34). -/
def memRead (addr bytes : Nat) : Option Access := (windowOffset addr).map (.read · (8 * bytes))

/-- MemWrite(addr, bytes, v) on the host bus, if it reaches the window (R9, R34). -/
def memWrite (addr bytes : Nat) (v : Word) : Option Access :=
  (windowOffset addr).map (.write · (8 * bytes) v)

end Sys2Proof.Machine
end

