-- ==== Sys2Proof/Machine/Agents.lean ====
section
/-! DEFINITION. The two agents and the reset input (R124, R134): whose turn it is, and what the host's
turn does. The sequencer's turn runs the command in flight (Step.lean). -/

namespace Sys2Proof.Machine

/-- The sequencer completes the command in flight once its latency is used up, or once the host has
nothing more to do; otherwise the host moves (R133, R134). -/
def sequencerTurn (s : State) : Bool := s.busy && (s.latency == 0 || s.inputs.isEmpty)

/-- The host has moved: `rest` is left to do, and the command in flight, if there is one, is one host
event closer to its completion (R133). -/
def State.hostMoved (s : State) (rest : List HostEvent) : State :=
  { s with inputs := rest, latency := s.latency - 1 }

/-- The STATUS read of the polling loop (R130). -/
def pollAccess : Access := .read 0x014 32

/-- What the reset input leaves (R123, R124): every architectural field at its reset value and a
command in flight abandoned. The host goes on with the rest of its events. An access in progress gets
a response the spec does not define, a free value. -/
def resetInput (s : State) (rest : List HostEvent) (interrupted : Option Access) : State :=
  match interrupted with
  | none => { State.reset with inputs := rest, response := s.response, draws := s.draws }
  | some _ =>
    { State.reset with
      inputs := rest, response := Config.freeResponse s.draws, draws := s.draws + 1 }

/-- The host's turn: its next event, if it has one (R134). A poll stays the next event until the read
returns BUSY = 0 (R130). -/
def hostTurn (s : State) : State :=
  match s.inputs with
  | [] => s
  | .access a :: rest => busAccess (s.hostMoved rest) a
  | .poll :: rest => busAccess (s.hostMoved (if s.busy then .poll :: rest else rest)) pollAccess
  | .reset interrupted :: rest => resetInput s rest interrupted

end Sys2Proof.Machine
end

