-- ==== Sys2Proof/Machine/Alu.lean ====
section
/-! DEFINITION. The bit-vector ALU: AND, OR, XOR, SHL, SHR (R66 to R72). -/

namespace Sys2Proof.Machine

/-- A command that writes RES from a pure function of the operands and cannot fail (R66). -/
def resultCommand (s : State) (w : Word) : State := runCommand s fun s => .ok (s.setRes w)

/-- AND: RES <- OPA & OPB (R67). -/
def execAnd (s : State) : Host.Outcome State Fault Refusal :=
  .next (resultCommand s (operandA s &&& operandB s))

/-- OR: RES <- OPA | OPB (R68). -/
def execOr (s : State) : Host.Outcome State Fault Refusal :=
  .next (resultCommand s (operandA s ||| operandB s))

/-- XOR: RES <- OPA ^ OPB (R69). -/
def execXor (s : State) : Host.Outcome State Fault Refusal :=
  .next (resultCommand s (operandA s ^^^ operandB s))

/-- SHL: RES <- OPA << SH, zeros entering at bit 0 (R70). -/
def execShl (sh : Nat) (s : State) : Host.Outcome State Fault Refusal :=
  .next (resultCommand s (operandA s <<< sh))

/-- SHR: RES <- OPA >> SH, zeros entering at bit 31 (R71). -/
def execShr (sh : Nat) (s : State) : Host.Outcome State Fault Refusal :=
  .next (resultCommand s (operandA s >>> sh))

end Sys2Proof.Machine
end

