-- ==== Sys2Proof/Machine/Tempering.lean ====
section
/-! DEFINITION. The tempering unit and its bit-dependency solver: XSHR, XSHL, IXSHR, IXSHL, TEMPER,
UNTEMPER (R73 to R85). -/

namespace Sys2Proof.Machine

/-- `xshr(x, s, m) = x ^ ((x >> s) & m)` (R73). -/
def xshr (x : Word) (s : Nat) (m : Word) : Word := x ^^^ ((x >>> s) &&& m)

/-- `xshl(x, s, m) = x ^ ((x << s) & m)` (R74). -/
def xshl (x : Word) (s : Nat) (m : Word) : Word := x ^^^ ((x <<< s) &&& m)

/-- The direction of the step a solver run inverts: L or R (R75). -/
inductive Direction
  | left
  | right
  deriving DecidableEq, Repr

/-- The shift-XOR step of a direction (R73, R74). -/
def shiftXor (dir : Direction) (x : Word) (s : Nat) (m : Word) : Word :=
  match dir with
  | .left => xshl x s m
  | .right => xshr x s m

/-- `src(j)`, the input bit that output bit j also depends on, if it lies in 0..31 (R75). -/
def sourceBit (dir : Direction) (s j : Nat) : Option Nat :=
  match dir with
  | .left => if s ≤ j then some (j - s) else none
  | .right => if j + s ≤ 31 then some (j + s) else none

/-- The solver's work: the bits of x found so far, and which of them are tagged RESOLVED. A bit not
resolved is 0 in both. These tags are transient and never part of the state (R33 (a)). -/
structure Solver where
  x : Word
  resolved : Word
  deriving DecidableEq, Repr

/-- `x[j] <- v ; tag[j] <- RESOLVED`, for a bit that is UNRESOLVED (R75). -/
def Solver.resolve (t : Solver) (j : Nat) (v : Bool) : Solver :=
  { x := t.x ||| placed (BitVec.ofBool v) j
    resolved := t.resolved ||| placed (1 : BitVec 1) j }

/-- The first loop of R75 at bit j: a bit that depends on no other is its observed bit. -/
def tagBit (y : Word) (s : Nat) (m : Word) (dir : Direction) (t : Solver) (j : Nat) : Solver :=
  match m.getLsbD j, sourceBit dir s j with
  | true, some _ => t
  | _, _ => t.resolve j (y.getLsbD j)

/-- The tags before the first pass (R75). -/
def initialTags (y : Word) (s : Nat) (m : Word) (dir : Direction) : Solver :=
  (List.range 32).foldl (tagBit y s m dir) ⟨0, 0⟩

/-- The scan of R75 at bit j: an UNRESOLVED bit whose source is RESOLVED becomes RESOLVED, by XOR with
the source's resolved value. -/
def scanBit (y : Word) (s : Nat) (dir : Direction) (t : Solver) (j : Nat) : Solver :=
  if t.resolved.getLsbD j then t
  else
    match sourceBit dir s j with
    | some i => if t.resolved.getLsbD i then t.resolve j (y.getLsbD j ^^ t.x.getLsbD i) else t
    | none => t

/-- One full pass over all 32 positions (R75). -/
def scanPass (y : Word) (s : Nat) (dir : Direction) (t : Solver) : Solver :=
  (List.range 32).foldl (scanBit y s dir) t

/-- Passes until one makes no progress, at most `fuel` of them (R75). -/
def scanPasses (y : Word) (s : Nat) (dir : Direction) : Nat → Solver → Solver
  | 0, t => t
  | fuel + 1, t =>
    let t' := scanPass y s dir t
    if t'.resolved = t.resolved then t' else scanPasses y s dir fuel t'

/-- `solve(y, s, m, dir)`: the word found, or FAIL (none) where a bit stays UNRESOLVED (R75). At most
33 passes run (R76 (a)), so the fuel never cuts the loop short. -/
def solve (y : Word) (s : Nat) (m : Word) (dir : Direction) : Option Word :=
  let t := scanPasses y s dir 33 (initialTags y s m dir)
  if t.resolved = BitVec.allOnes 32 then some t.x else none

/-- T1 (R77). -/
def temper1 (v : Word) : Word := xshr v 11 fullMask

/-- T2 (R77). -/
def temper2 (v : Word) : Word := xshl v 7 temperMask2

/-- T3 (R77). -/
def temper3 (v : Word) : Word := xshl v 15 temperMask3

/-- T4 (R77). -/
def temper4 (v : Word) : Word := xshr v 18 fullMask

/-- Forward tempering: T1, T2, T3, T4 in this order (R77). -/
def harden (x : Word) : Word := temper4 (temper3 (temper2 (temper1 x)))

/-- One inverse step of R78. It never returns FAIL, because every shift of R78 is at least 7
(R76 (b)); the value for FAIL is never taken (notes/assumptions/10.md). -/
def untemperStep (v : Word) (s : Nat) (m : Word) (dir : Direction) : Word := (solve v s m dir).getD v

/-- Inverse tempering: the four steps undone in strict reverse order (R78, C2). -/
def unharden (y : Word) : Word :=
  let v3 := untemperStep y 18 fullMask .right
  let v2 := untemperStep v3 15 temperMask3 .left
  let v1 := untemperStep v2 7 temperMask2 .left
  untemperStep v1 11 fullMask .right

/-- The effect of an inverse step: the solver's word, or BAD_OPERAND where it fails (R82, R83). -/
def solveEffect (sh : Nat) (dir : Direction) (s : State) : Except ResultCode State :=
  match solve (operandA s) sh (operandB s) dir with
  | some r => .ok (s.setRes r)
  | none => .error .badOperand

/-- XSHR: RES <- xshr(OPA, SH, OPB) (R80). -/
def execXshr (sh : Nat) (s : State) : Host.Outcome State Fault Refusal :=
  .next (resultCommand s (xshr (operandA s) sh (operandB s)))

/-- XSHL: RES <- xshl(OPA, SH, OPB) (R81). -/
def execXshl (sh : Nat) (s : State) : Host.Outcome State Fault Refusal :=
  .next (resultCommand s (xshl (operandA s) sh (operandB s)))

/-- IXSHR: the inverse right step through the solver (R82). -/
def execIxshr (sh : Nat) (s : State) : Host.Outcome State Fault Refusal :=
  .next (runCommand s (solveEffect sh .right))

/-- IXSHL: the inverse left step through the solver (R83). -/
def execIxshl (sh : Nat) (s : State) : Host.Outcome State Fault Refusal :=
  .next (runCommand s (solveEffect sh .left))

/-- TEMPER: RES <- harden(OPA) (R84). -/
def execTemper (s : State) : Host.Outcome State Fault Refusal :=
  .next (resultCommand s (harden (operandA s)))

/-- UNTEMPER: RES <- unharden(OPA) (R85). -/
def execUntemper (s : State) : Host.Outcome State Fault Refusal :=
  .next (resultCommand s (unharden (operandA s)))

end Sys2Proof.Machine
end

