-- ==== Sys2Proof/Machine/Twist.lean ====
section
/-! DEFINITION. The twist recurrence engine: twist, untwist, consistency, TWIST and UNTWIST (R93 to
R100). -/

namespace Sys2Proof.Machine

/-- `mag(y) = (y >> 1) ^ (if y[0] = 1 then A else 0)` (R94). -/
def mag (y : Word) : Word := (y >>> 1) ^^^ (if y.getLsbD 0 then twistConstant else 0)

/-- The mixing word: the upper bit of u and the lower 31 bits of l (R93). -/
def mix (u l : Word) : Word := (u &&& upperMask) ||| (l &&& lowerMask)

/-- Step k of the forward loop, in place (R93). -/
def twistAt (b : Buf) (k : Nat) : Buf :=
  b.put k (b.word (k + middle) ^^^ mag (mix (b.word k) (b.word (k + 1))))

/-- The first n steps of the forward loop: k = 0, 1, ..., n - 1 (R93). -/
def twistSteps : Nat → Buf → Buf
  | 0, b => b
  | n + 1, b => twistAt (twistSteps n b) n

/-- The twist of all 624 words, in place with k ascending (R93, C9). -/
@[irreducible] def twist (b : Buf) : Buf := twistSteps bufWords b

/-- `g(t)`, the inverse of mag (R96): bit 31 of t tells whether A was added (C8). -/
def unmag (t : Word) : Word :=
  if t.getLsbD 31 then ((t ^^^ twistConstant) <<< 1) ||| 1 else t <<< 1

/-- Step i of the backward loop, in place (R95): the high bit from word i, the low 31 bits from the
word before it. -/
def untwistAt (b : Buf) (i : Nat) : Buf :=
  let high := unmag (b.word i ^^^ b.word (i + middle))
  let low := unmag (b.word (i + 623) ^^^ b.word (i + 396))
  b.put i (mix high low)

/-- The backward loop from i = n - 1 down to 0 (R95). -/
def untwistSteps : Nat → Buf → Buf
  | 0, b => b
  | n + 1, b => untwistSteps n (untwistAt b n)

/-- The untwist of all 624 words, in place with i descending (R95). -/
@[irreducible] def untwist (b : Buf) : Buf := untwistSteps bufWords b

/-- n untwists, one after the other (R104). -/
def untwistTimes : Nat → Buf → Buf
  | 0, b => b
  | n + 1, b => untwistTimes n (untwist b)

/-- The array is consistent: B[0][30:0] = g(B[623] ^ B[396])[30:0] (R96). -/
abbrev Buf.Consistent (b : Buf) : Prop :=
  b.word 0 &&& lowerMask = unmag (b.word 623 ^^^ b.word 396) &&& lowerMask

/-- BUF <- twist(BUF) ; CURSOR <- 0: the forward regeneration of CHECK, TWIST and the predict step
(R90, R99, R101, C12). -/
def State.regenerate (s : State) : State := (s.setBuf (twist s.buf)).setCursor 0

/-- The effect of TWIST (R99). -/
def twistEffect (s : State) : Except ResultCode State :=
  if s.ready then .ok s.regenerate else .error .insufficientData

/-- The effect of UNTWIST; CURSOR stays (R100, D28). -/
def untwistEffect (s : State) : Except ResultCode State :=
  if s.ready then .ok (s.setBuf (untwist s.buf)) else .error .insufficientData

/-- TWIST: advance BUF by one full cycle (R99). -/
def execTwist (s : State) : Host.Outcome State Fault Refusal := .next (runCommand s twistEffect)

/-- UNTWIST: step BUF back by one full cycle (R100). -/
def execUntwist (s : State) : Host.Outcome State Fault Refusal := .next (runCommand s untwistEffect)

end Sys2Proof.Machine
end

