-- ==== Sys2Proof/Machine/Buffer.lean ====
section
/-! DEFINITION. The state buffer controller: SUBMIT, SUBMITP, CHECK, CLEAR (R86 to R91). -/

namespace Sys2Proof.Machine

/-- The effect of SUBMIT (R87): 32 bits more in LEDGER in either mode; in DIRECT mode the raw word is
pushed and goes to RES. -/
def submitEffect (s : State) : Except ResultCode State :=
  if s.ready then .error .wrongState
  else
    match s.mode with
    | .direct => .ok (((s.addBits 32).push (unharden (operandA s))).setRes (unharden (operandA s)))
    | .matrix => .ok (s.addBits 32)

/-- The effect of SUBMITP (R88): the operand test comes before the state test (R110). -/
def submitpEffect (width : Nat) (s : State) : Except ResultCode State :=
  if wordMultiple width then .error .badOperand
  else if s.ready then .error .wrongState
  else .ok (s.toMatrix.addBits width)

/-- The effect of CHECK (R90), its tests in the spec's order. INVARIANT_VIOLATION sets FATAL as the
command completes (R108). -/
def checkEffect (fm : Bool) (s : State) : Except ResultCode State :=
  if s.ledger.toNat < threshold then .error .insufficientData
  else if s.mode = .matrix ∨ fm = true then .error .matrixUnimplemented
  else if s.ready then .ok (s.setRes 1)
  else if s.fill.val < bufWords then .error .invariantViolation
  else .ok (s.regenerate.markReady.setRes 1)

/-- SUBMIT: one 32-bit observed output (R87). -/
def execSubmit (s : State) : Host.Outcome State Fault Refusal := .next (runCommand s submitEffect)

/-- SUBMITP: one observation whose width is not a multiple of 32 (R88). -/
def execSubmitp (width : Nat) (s : State) : Host.Outcome State Fault Refusal :=
  .next (runCommand s (submitpEffect width))

/-- CHECK: test readiness and, on success, ready the predictor (R90). -/
def execCheck (fm : Bool) (s : State) : Host.Outcome State Fault Refusal :=
  .next (runCommand s (checkEffect fm))

/-- CLEAR: the controller back to its empty state (R91). -/
def execClear (s : State) : Host.Outcome State Fault Refusal :=
  .next (runCommand s fun s => .ok s.emptied)

end Sys2Proof.Machine
end

