-- ==== Sys2Proof/Machine/Predictor.lean ====
section
/-! DEFINITION. The predictor and the offset cursor: the predict step, PREDICT, OFFSET (R101 to R106). -/

namespace Sys2Proof.Machine

/-- The lazy twist at the head of the predict step: only where all 624 words are consumed (R101). -/
def State.refreshed (s : State) : State := if s.cursor.val = bufWords then s.regenerate else s

/-- CURSOR <- CURSOR + 1 (R101). -/
def State.advance (s : State) : State := s.setCursor (Fin.ofNat 625 (s.cursor.val + 1))

/-- The word the predict step returns (R101). -/
def predictedWord (s : State) : Word := harden (s.refreshed.buf.word s.refreshed.cursor.val)

/-- What the predict step does to BUF and CURSOR (R101). -/
def predictStep (s : State) : State := s.refreshed.advance

/-- n predict steps, their results discarded (R104). -/
def predictSteps : Nat → State → State
  | 0, s => s
  | n + 1, s => predictSteps n (predictStep s)

/-- How many untwists OFFSET -m runs: floor(m / 624) + 1 (R104, C4). -/
def untwistCount (m : Nat) : Nat := m / bufWords + 1

/-- How many predict steps follow them: 624 - (m mod 624) (R104). -/
def catchUpCount (m : Nat) : Nat := bufWords - m % bufWords

/-- The effect of PREDICT (R103). -/
def predictEffect (s : State) : Except ResultCode State :=
  if s.ready then .ok ((predictStep s).setRes (predictedWord s)) else .error .insufficientData

/-- The effect of OFFSET (R104): n = 0 succeeds in every state, and RES is never written. -/
def offsetEffect (s : State) : Except ResultCode State :=
  let n := offsetOperand s
  if n = 0 then .ok s
  else if s.ready = false then .error .insufficientData
  else if 0 < n then .ok (predictSteps n.toNat s)
  else
    let m := (-n).toNat
    .ok (predictSteps (catchUpCount m) (s.setBuf (untwistTimes (untwistCount m) s.buf)))

/-- PREDICT: return the next output (R103). -/
def execPredict (s : State) : Host.Outcome State Fault Refusal := .next (runCommand s predictEffect)

/-- OFFSET: move the prediction position by n outputs (R104). -/
def execOffset (s : State) : Host.Outcome State Fault Refusal := .next (runCommand s offsetEffect)

end Sys2Proof.Machine
end

