-- ==== Sys2Proof/Machine/Dispatch.lean ====
section
/-! DEFINITION. The dispatch: one arm per command, each one direct call of its meaning (R108). -/

namespace Sys2Proof.Machine

def exec (i : Instr) (s : State) : Host.Outcome State Fault Refusal :=
  match i with
  | .and => Sys2Proof.Machine.execAnd s
  | .or => Sys2Proof.Machine.execOr s
  | .xor => Sys2Proof.Machine.execXor s
  | .shl sh => Sys2Proof.Machine.execShl sh s
  | .shr sh => Sys2Proof.Machine.execShr sh s
  | .xshr sh => Sys2Proof.Machine.execXshr sh s
  | .xshl sh => Sys2Proof.Machine.execXshl sh s
  | .ixshr sh => Sys2Proof.Machine.execIxshr sh s
  | .ixshl sh => Sys2Proof.Machine.execIxshl sh s
  | .temper => Sys2Proof.Machine.execTemper s
  | .untemper => Sys2Proof.Machine.execUntemper s
  | .submit => Sys2Proof.Machine.execSubmit s
  | .submitp width => Sys2Proof.Machine.execSubmitp width s
  | .check fm => Sys2Proof.Machine.execCheck fm s
  | .clear => Sys2Proof.Machine.execClear s
  | .twist => Sys2Proof.Machine.execTwist s
  | .untwist => Sys2Proof.Machine.execUntwist s
  | .predict => Sys2Proof.Machine.execPredict s
  | .offset => Sys2Proof.Machine.execOffset s

end Sys2Proof.Machine
end

