-- ==== Sys2Proof/Machine/Step.lean ====
section
/-! DEFINITION. One step of the machine (R134), and how the host places the next command. -/

namespace Sys2Proof.Machine

/-- One step: the sequencer's completion of the command in flight (R108), or the host's next event. A
word that decodes to no command is executed too (R60). -/
def step (s : State) : Host.Outcome State Fault Refusal :=
  if sequencerTurn s then
    match fetch s with
    | .ok i => exec i s
    | .error _ => .next (illegalCommand s)
  else .next (hostTurn s)

/-- The command word is in flight with no latency left, so that the very next step completes it: the
state a CMD write leaves (R37) where its LAT draw is 0 (notes/assumptions/8.md). -/
def State.withFetchWord (s : State) (nbits w : Nat) : State :=
  { s with busy := true, pending := BitVec.ofNat 32 (w % 2 ^ nbits), latency := 0 }

end Sys2Proof.Machine
end

