-- ==== Sys2Proof/Machine/HostOps.lean ====
section
/-! DEFINITION. What the host writes down (R63 to R65, R127): host operations, command lines,
pseudo-instructions and the reconstruction protocol, each as the host events it stands for. None of
them is a command of MTC. -/

namespace Sys2Proof.Machine

/-- A write of a register (R64). -/
def writeTo (r : Register) (v : Word) : HostEvent := .access (.write r.offset 32 v)

/-- `LDA v` (R64). -/
def lda (v : Word) : HostEvent := writeTo .opa v

/-- `LDB v` (R64). -/
def ldb (v : Word) : HostEvent := writeTo .opb v

/-- `RD name` (R64). -/
def rd (r : Register) : HostEvent := .access (.read r.offset 32)

/-- `RDBUF k` (R64). -/
def rdbuf (k : Fin 624) : HostEvent := rd (.buf k)

/-- `.rept n ... .endr` (R64). -/
def rept (n : Nat) (lines : List HostEvent) : List HostEvent := (List.replicate n lines).flatten

/-- `.each v in LIST ... .endr`, `v` bound to each value in turn (R64). R64 does not limit the values:
words for `LDA v`, wide numbers for `SUBMITV v, w`, whatever the lines take. -/
def each {α : Type} (values : List α) (lines : α → List HostEvent) : List HostEvent :=
  values.flatMap lines

/-- A command line: the write of the command word to CMD, then polling until BUSY = 0 (R63). -/
def commandLine (i : Instr) : List HostEvent := [writeTo .cmd (encode i), .poll]

/-- The two lines `LDA n` ; `OFFSET`, which move the position by n (R65, R104, R127). -/
def moveBy (n : Word) : List HostEvent := lda n :: commandLine .offset

/-- The operand ranges of the assembler: SH in 0..31 and W in 1..65535 (R63). -/
def assemblerTakes (i : Instr) : Bool :=
  match i with
  | .submitp width => i.wellFormed && width != 0
  | _ => i.wellFormed

/-- The lines of a command; the assembler refuses a field out of range (R63). -/
def assembled (i : Instr) : Option (List HostEvent) :=
  if assemblerTakes i then some (commandLine i) else none

/-- The pseudo-instructions (R65). -/
inductive Pseudo
  | mask
  | checkm
  | submitv (v width : Nat)
  | skip (n : Nat)
  | back (n : Nat)
  | temperstep1
  | temperstep2
  | temperstep3
  | temperstep4
  deriving DecidableEq, Repr

/-- Chunk i of a wide value, the least significant chunk first (R65, R89). -/
def chunk (v i : Nat) : Word := BitVec.ofNat 32 (v >>> (32 * i))

/-- The exact expansions (R65). A width that one command cannot carry (R89), and a distance that OPA
cannot hold as a signed number (R104), have none. -/
def Pseudo.expand (p : Pseudo) : Option (List HostEvent) :=
  match p with
  | .mask => some (commandLine .and)
  | .checkm => some (commandLine (.check true))
  | .submitv v width =>
    if width = 0 then none
    else if width % 32 = 0 then
      some ((List.range (width / 32)).flatMap fun i => lda (chunk v i) :: commandLine .submit)
    else assembled (.submitp width)
  | .skip n => if n < 2 ^ 31 then some (moveBy (BitVec.ofNat 32 n)) else none
  | .back n =>
    if 1 ≤ n ∧ n ≤ 2 ^ 31 then some (moveBy (BitVec.ofNat 32 (2 ^ 32 - n)))
    else none
  | .temperstep1 => some (ldb fullMask :: commandLine (.xshr 11))
  | .temperstep2 => some (ldb temperMask2 :: commandLine (.xshl 7))
  | .temperstep3 => some (ldb temperMask3 :: commandLine (.xshl 15))
  | .temperstep4 => some (ldb fullMask :: commandLine (.xshr 18))

/-- The host protocol for one reconstruction (R127): CLEAR, which is optional after reset; every
observed word, the oldest first, of which readiness needs at least 624; CHECK; as many predictions as
asked for; and the optional move of the position. -/
def reconstruction (clearFirst : Bool) (observed : List Word) (predictions : Nat)
    (move : Option Word) : List HostEvent :=
  (if clearFirst then commandLine .clear else []) ++
    each observed (fun v => lda v :: commandLine .submit) ++ commandLine (.check false) ++
    rept predictions (commandLine .predict) ++ move.elim [] moveBy

end Sys2Proof.Machine
end

