-- ==== Sys2Proof/Machine/Assembler.lean ====
section
/-! DEFINITION. The assembler's command syntax (R63): one command a line, a mnemonic in any case, its
field operands, and an optional comment. -/

namespace Sys2Proof.Machine

/-- The line without its comment (R63). -/
def stripComment (line : List Char) : List Char := line.takeWhile (· != ';')

/-- The fields of a line, separated by blanks; `field` is the one being read, backwards. -/
def fieldsOf (field : List Char) (line : List Char) : List (List Char) :=
  match line with
  | [] => if field.isEmpty then [] else [field.reverse]
  | c :: rest =>
    if c == ' ' || c == '\t' then
      if field.isEmpty then fieldsOf [] rest else field.reverse :: fieldsOf [] rest
    else fieldsOf (c :: field) rest

/-- The value of one digit of a base. -/
def digitValue (radix : Nat) (c : Char) : Option Nat :=
  let v :=
    if '0' ≤ c ∧ c ≤ '9' then c.toNat - 48
    else if 'A' ≤ c.toUpper ∧ c.toUpper ≤ 'F' then c.toUpper.toNat - 55
    else radix
  if v < radix then some v else none

/-- The number that digits of a base spell, most significant first, after `acc`. -/
def digitsValue (radix : Nat) (acc : Nat) (cs : List Char) : Option Nat :=
  match cs with
  | [] => some acc
  | c :: rest => (digitValue radix c).bind fun v => digitsValue radix (acc * radix + v) rest

/-- A decimal or 0x-hex number (R63). R63 gives this notation for format S only, and says nothing of
leading zeros; that formats W and F take the same numerals is a DESIGN CHOICE
(notes/assumptions/18.md). -/
def numberOf (cs : List Char) : Option Nat :=
  match cs with
  | [] => none
  | '0' :: 'x' :: d :: ds => digitsValue 16 0 (d :: ds)
  | c :: rest => digitsValue 10 0 (c :: rest)

/-- The mnemonics of format N (R54). -/
def mnemonicsN : List (String × Instr) :=
  [("AND", .and), ("OR", .or), ("XOR", .xor), ("TEMPER", .temper), ("UNTEMPER", .untemper),
   ("SUBMIT", .submit), ("CLEAR", .clear), ("TWIST", .twist), ("UNTWIST", .untwist),
   ("PREDICT", .predict), ("OFFSET", .offset)]

/-- The mnemonics of formats S and W, which take a number (R55, R56). -/
def mnemonicsNumber : List (String × (Nat → Instr)) :=
  [("SHL", .shl), ("SHR", .shr), ("XSHR", .xshr), ("XSHL", .xshl), ("IXSHR", .ixshr),
   ("IXSHL", .ixshl), ("SUBMITP", .submitp)]

/-- The entry of a mnemonic, whatever its case (R63). -/
def entryOf {α : Type} (table : List (String × α)) (name : List Char) : Option α :=
  (table.find? fun r => r.1.toList == name.map Char.toUpper).map Prod.snd

/-- The command a line stands for, if it is one the assembler takes (R63). The operand of every
format is any numeral of `numberOf` with a value in the format's range, so `SUBMITP 0x8`, `CHECK 0x1`
and `CHECK 01` are taken: a DESIGN CHOICE (notes/assumptions/18.md). -/
def parseCommand (line : List Char) : Option Instr :=
  let parsed : Option Instr :=
    match fieldsOf [] (stripComment line) with
    | [name] =>
      if name.map Char.toUpper == "CHECK".toList then some (Instr.check false)
      else entryOf mnemonicsN name
    | [name, operand] =>
      (numberOf operand).bind fun n =>
        if name.map Char.toUpper == "CHECK".toList then
          if n = 0 then some (Instr.check false)
          else if n = 1 then some (Instr.check true)
          else none
        else (entryOf mnemonicsNumber name).map fun (build : Nat → Instr) => build n
    | _ => none
  parsed.filter assemblerTakes

end Sys2Proof.Machine
end

