-- ==== Sys2Proof/Safety.lean ====
section
/-! DEFINITION. What claims about MTC are stated in: the invariant of R32, the host's hazard rule
(R128), the raw word stream of R98 and R102, and the sum of two buffers (R97 (e)). -/

namespace Sys2Proof.Machine

/-- Before FILL reaches 624, words BUF[0] to BUF[623 - FILL] hold 0 (R20). -/
def State.UnfilledZero (s : State) : Prop := ∀ k, k + s.fill.val < bufWords → s.buf.word k = 0

/-- What READY = 1 implies (R32 (a), R97 (d)). -/
def State.ReadySound (s : State) : Prop :=
  s.ready = true →
    s.fill.val = bufWords ∧ s.mode = .direct ∧ threshold ≤ s.ledger.toNat ∧ s.buf.Consistent

/-- While MODE = DIRECT, LEDGER and FILL count the same number p of SUBMITs (R32 (c)). -/
def State.CountsAgree (s : State) : Prop :=
  s.mode = .direct →
    ∃ p : Nat, s.ledger.toNat = min ledgerMax (32 * p) ∧ s.fill.val = min bufWords p

/-- The invariant of R32 (a), (b), (c), (e), with R20, R26, R27 and R97 (d), and with what the model
says of a word in flight: none is held while BUSY = 0. -/
def State.Inv (s : State) : Prop :=
  s.ReadySound ∧ (s.ready = false → s.cursor = 0) ∧ s.CountsAgree ∧ s.UnfilledZero ∧
    s.fatal = false ∧ s.err.toNat ≤ 6 ∧ (s.err ≠ 0 → s.errSeen = true) ∧
    (s.busy = false → s.pending = 0)

/-- A read that is specified while BUSY = 1: ID, CMD, and STATUS for its BUSY bit (R131). -/
def specifiedWhileBusy (a : Access) : Bool :=
  match a with
  | .read offset bits =>
    match target offset bits with
    | some .id | some .cmd | some .status => true
    | _ => false
  | .write _ _ _ => false

/-- The host's next event breaks the hazard rule (R128): the block is busy, and the event is an
access other than a read that is specified then. R128 lists the accesses that must wait; that one it
does not list, which gets BUSERR in every state, counts as well is a DESIGN CHOICE
(notes/assumptions/20.md). -/
def State.hazard (s : State) : Bool :=
  match s.inputs with
  | .access a :: _ => s.busy && !specifiedWhileBusy a
  | _ => false

/-- A safe state: no fatal lock, and the host's next event keeps the hazard rule (R109, R128). -/
abbrev State.Safe (s : State) : Prop := s.fatal = false ∧ s.hazard = false

/-- A raw word stream of MT19937, extended to all integers: the recurrence of R98 holds at every
position. -/
def Stream (x : Int → Word) : Prop :=
  ∀ n : Int, x (n + 624) = x (n + 397) ^^^ mag (mix (x n) (x (n + 1)))

/-- The window [x_j, ..., x_(j+623)] of a stream (R98, R102). -/
def window (x : Int → Word) (j : Int) : Buf := Vector.ofFn fun k => x (j + k.val)

/-- The sum over GF(2) of two buffers (R97 (e)). -/
def Buf.xor (a b : Buf) : Buf := Vector.ofFn fun k => a.word k.val ^^^ b.word k.val

/-- t holds the controller of s: every field of R13 but OPA, OPB and BUSY, which a bus access may
write, is the same (R36 to R39). -/
structure SameController (s t : State) : Prop where
  res : t.res = s.res
  buf : t.buf = s.buf
  fill : t.fill = s.fill
  cursor : t.cursor = s.cursor
  ledger : t.ledger = s.ledger
  mode : t.mode = s.mode
  ready : t.ready = s.ready
  fatal : t.fatal = s.fatal
  err : t.err = s.err
  errSeen : t.errSeen = s.errSeen

/-- The host writes OPA and has the command run to completion, for each pair in turn; it stops at the
first step that answers no next state (R63, R64). -/
def runWith : List (Word × Instr) → State → Host.Outcome State Fault Refusal
  | [], s => .next s
  | (v, i) :: rest, s =>
    match exec i (s.setOpa v) with
    | .next t => runWith rest t
    | .fault r => .fault r
    | .refused r => .refused r

/-- The state after a command succeeded, from the state that holds its effects: ERR <- 0 and BUSY
falls (R108). -/
def State.succeeded (s : State) : State := { s with err := 0, busy := false }

/-- The state after a command failed with a code other than 2: ERR and ERRSEEN tell, BUSY falls, and
nothing else changed (R108). -/
def State.failed (s : State) (code : BitVec 4) : State :=
  { s with err := code, errSeen := true, busy := false }

/-- The outcome is a next state, and it is t in every field but the transient ones of the command in
flight, its word and its latency, which exist only while BUSY = 1 (R33 (b)); what the model keeps in
them is its own choice (notes/assumptions/13.md). -/
def Completes (o : Host.Outcome State Fault Refusal) (t : State) : Prop :=
  ∃ u : State, o = .next u ∧ u = { t with pending := u.pending, latency := u.latency }

end Sys2Proof.Machine
end

