-- ==== Sys2Proof/Certificates/Slice0/Obligations.lean ====
section
/-! DEFINITION. The statements for the provers. Each docstring names the rule of spec/ it rests on. -/

open Sys2Proof Sys2Proof.Machine

/-! ### Encoding -/

/-- R54 to R60: decoding the word of a well-formed command gives the command back, every field at
every value its format admits. -/
def Obligations.CommandWordsDecodeBack : Prop :=
  ∀ i : Instr, i.WellFormed → decode (encode i) = .ok i

/-- R54 to R60: a word that decodes has one reading, a well-formed command whose word it is; so no
bit of a legal word is dropped. -/
def Obligations.DecodedWordsEncodeBack : Prop :=
  ∀ (w : Word) (i : Instr), decode w = .ok i → i.WellFormed ∧ encode i = w

/-- R59: the complete opcode map, row by row with match and mask, and at most one row for a word.
-/
def Obligations.DecodeIsTheOpcodeMap : Prop :=
  (∀ (w : Word) (i : Instr), decode w = .ok i ↔
    (w &&& 0xFFFFFFFF = 0x01000000 ∧ i = .and) ∨
    (w &&& 0xFFFFFFFF = 0x02000000 ∧ i = .or) ∨
    (w &&& 0xFFFFFFFF = 0x03000000 ∧ i = .xor) ∨
    (w &&& 0xFFE0FFFF = 0x04000000 ∧ i = .shl (w.extractLsb' 16 5).toNat) ∨
    (w &&& 0xFFE0FFFF = 0x05000000 ∧ i = .shr (w.extractLsb' 16 5).toNat) ∨
    (w &&& 0xFFE0FFFF = 0x10000000 ∧ i = .xshr (w.extractLsb' 16 5).toNat) ∨
    (w &&& 0xFFE0FFFF = 0x11000000 ∧ i = .xshl (w.extractLsb' 16 5).toNat) ∨
    (w &&& 0xFFE0FFFF = 0x12000000 ∧ i = .ixshr (w.extractLsb' 16 5).toNat) ∨
    (w &&& 0xFFE0FFFF = 0x13000000 ∧ i = .ixshl (w.extractLsb' 16 5).toNat) ∨
    (w &&& 0xFFFFFFFF = 0x14000000 ∧ i = .temper) ∨
    (w &&& 0xFFFFFFFF = 0x15000000 ∧ i = .untemper) ∨
    (w &&& 0xFFFFFFFF = 0x20000000 ∧ i = .submit) ∨
    (w &&& 0xFFFF0000 = 0x21000000 ∧ i = .submitp (w.extractLsb' 0 16).toNat) ∨
    (w &&& 0xFFFFFFFE = 0x22000000 ∧ i = .check (w.getLsbD 0)) ∨
    (w &&& 0xFFFFFFFF = 0x23000000 ∧ i = .clear) ∨
    (w &&& 0xFFFFFFFF = 0x30000000 ∧ i = .twist) ∨
    (w &&& 0xFFFFFFFF = 0x31000000 ∧ i = .untwist) ∨
    (w &&& 0xFFFFFFFF = 0x40000000 ∧ i = .predict) ∨
    (w &&& 0xFFFFFFFF = 0x41000000 ∧ i = .offset)) ∧
  ∀ w : Word, ∀ r ∈ opcodeMap, ∀ r' ∈ opcodeMap,
    r.selects w = true → r'.selects w = true → r.pattern = r'.pattern ∧ r.mask = r'.mask

/-- R61: the words that are no command, (a) by an unlisted opcode, (b) by a reserved bit, and no
other word; such a word in flight completes with code 4 and changes nothing else. When the
sequencer moves is the model's choice (log entry 2). -/
def Obligations.IllegalWordsOnlyReportCodeFour : Prop :=
  (∀ w : Word, (∃ e, decode w = .error e) ↔
    (let opc := (w.extractLsb' 24 8).toNat
     opc = 0x00 ∨ (0x06 ≤ opc ∧ opc ≤ 0x0F) ∨ (0x16 ≤ opc ∧ opc ≤ 0x1F) ∨
      (0x24 ≤ opc ∧ opc ≤ 0x2F) ∨ (0x32 ≤ opc ∧ opc ≤ 0x3F) ∨ 0x42 ≤ opc ∨
      (opc ∈ [0x01, 0x02, 0x03, 0x14, 0x15, 0x20, 0x23, 0x30, 0x31, 0x40, 0x41] ∧
        w.extractLsb' 0 24 ≠ 0) ∨
      (opc ∈ [0x04, 0x05, 0x10, 0x11, 0x12, 0x13] ∧
        (w.extractLsb' 21 3 ≠ 0 ∨ w.extractLsb' 0 16 ≠ 0)) ∨
      (opc = 0x21 ∧ w.extractLsb' 16 8 ≠ 0) ∨
      (opc = 0x22 ∧ w.extractLsb' 1 23 ≠ 0))) ∧
  ∀ s : State, s.fatal = false → sequencerTurn s = true → (∃ e, decode s.pending = .error e) →
    Completes (step s) (s.failed 4)

/-- R52 to R60, sanity: a few words written out from the formats, one or more per family. -/
def Obligations.WrittenOutWordsDecode : Prop :=
  decode 0x01000000 = .ok .and ∧ decode 0x041F0000 = .ok (.shl 31) ∧
    decode 0x10120000 = .ok (.xshr 18) ∧ decode 0x13070000 = .ok (.ixshl 7) ∧
    decode 0x21000028 = .ok (.submitp 40) ∧ decode 0x22000001 = .ok (.check true) ∧
    decode 0x31000000 = .ok .untwist ∧ decode 0x41000000 = .ok .offset

/-! ### The step and the execute procedure -/

/-- R60, R108, R134: in the sequencer's turn, a step at a state whose word in flight decodes to i
is exec of i at that state, and nothing else; a placed command is in that turn. Whose turn it is,
and how a command is placed, are the model's choices (log entries 2 and 8). -/
def Obligations.StepRunsTheDecodedCommand : Prop :=
  (∀ (s : State) (i : Instr), s.busy = true → (s.latency = 0 ∨ s.inputs = []) →
    decode s.pending = .ok i → step s = exec i s) ∧
  ∀ (s : State) (nbits w : Nat) (i : Instr), decodeTableWord nbits w = some i →
    step (s.withFetchWord nbits w) = exec i (s.withFetchWord nbits w)

/-- R132, R41, R121: no step of MTC stops, whatever the state: every command completes and every
access is answered. That a block with nothing to do answers the same state is the model's choice
(log entry 8). -/
def Obligations.EveryStepAnswersANextState : Prop :=
  ∀ s : State, ∃ t, step s = .next t

/-- R26, R27, R108: a command that completes with a nonzero code changes ERR, ERRSEEN, FATAL for
code 2, and BUSY, and nothing else; one that completes with 0 leaves ERRSEEN and FATAL alone. That
pending and latency are cleared is the model's choice (log entry 13). -/
def Obligations.FailingCommandsChangeNothingElse : Prop :=
  ∀ (i : Instr) (s t : State), exec i s = .next t →
    (t.err ≠ 0 → t = { s with
      err := t.err, errSeen := true, fatal := s.fatal || t.err == 2, busy := false, pending := 0,
      latency := 0 }) ∧
    (t.err = 0 → t.errSeen = s.errSeen ∧ t.fatal = s.fatal ∧ t.busy = false)

/-- R107, R110: which code a command completes with, cause by cause, where FATAL = 0. When the
sequencer moves is the model's choice (log entry 2). -/
def Obligations.ResultCodesHaveTheirCauses : Prop :=
  (∀ (i : Instr) (s t : State), s.fatal = false → exec i s = .next t →
    (t.err = 1 ↔
      ((∃ fm, i = .check fm) ∧ s.ledger.toNat < 19968) ∨
      ((i = .predict ∨ i = .twist ∨ i = .untwist ∨ (i = .offset ∧ s.opa ≠ 0)) ∧
        s.ready = false)) ∧
    (t.err = 2 ↔ i = .check false ∧ 19968 ≤ s.ledger.toNat ∧ s.mode = .direct ∧
      s.ready = false ∧ s.fill.val < 624) ∧
    (t.err = 3 ↔ ∃ fm, i = .check fm ∧ 19968 ≤ s.ledger.toNat ∧ (s.mode = .matrix ∨ fm = true)) ∧
    (t.err = 5 ↔ ((i = .ixshr 0 ∨ i = .ixshl 0) ∧ s.opb ≠ 0) ∨
      ∃ width, i = .submitp width ∧ (width = 0 ∨ width % 32 = 0)) ∧
    (t.err = 6 ↔ s.ready = true ∧ (i = .submit ∨
      ∃ width, i = .submitp width ∧ width ≠ 0 ∧ width % 32 ≠ 0)) ∧
    t.err ≠ 4 ∧ t.err.toNat ≤ 6) ∧
  (∀ s t : State, s.fatal = false → sequencerTurn s = true → (∃ e, decode s.pending = .error e) →
    step s = .next t → t.err = 4) ∧
  ∀ s t : State, s.fatal = true → sequencerTurn s = true → step s = .next t → t.err = 2

/-- R109: the fatal lock. It is set by code 2; under it every word in flight, legal or not,
completes with code 2 and no other effect; reads and the writes of OPA and OPB still work; only the
reset input clears it; and it cannot be reached from a state of the invariant. When the sequencer
moves is the model's choice (log entry 2). -/
def Obligations.FatalLockHoldsUntilReset : Prop :=
  (∀ s t : State, sequencerTurn s = true → step s = .next t → t.err = 2 → t.fatal = true) ∧
  (∀ s : State, s.fatal = true → sequencerTurn s = true → Completes (step s) (s.failed 2)) ∧
  (∀ (s : State) (offset : BitVec 13) (rest : List HostEvent) (r : Register), s.fatal = true →
    s.busy = false → s.inputs = .access (.read offset 32) :: rest →
    registerAt offset.toNat = some r → ∃ t, step s = .next t ∧ t.response = some (.data (r.value s))) ∧
  (∀ (s : State) (v : Word) (rest : List HostEvent), s.fatal = true → s.busy = false →
    (s.inputs = .access (.write 0x008 32 v) :: rest →
      ∃ t, step s = .next t ∧ t.opa = v ∧ t.response = some .ok) ∧
    (s.inputs = .access (.write 0x00C 32 v) :: rest →
      ∃ t, step s = .next t ∧ t.opb = v ∧ t.response = some .ok)) ∧
  (∀ s t : State, s.fatal = true → step s = .next t → t.fatal = false →
    ∃ i rest, s.inputs = .reset i :: rest) ∧
  ∀ s t : State, s.Inv → step s = .next t → t.fatal = false

/-! ### The invariant -/

/-- R32 (with R20, R26, R27 and R97 (d)): every step keeps the invariant, from every state that has
it. The clause on the word in flight is the model's own (log entry 13). -/
def Obligations.EveryStepKeepsTheInvariant : Prop :=
  ∀ s t : State, s.Inv → step s = .next t → t.Inv

/-- R32, R123: the reset state has the invariant. The clause on the word in flight is the model's
own (log entry 6). -/
def Obligations.ResetStateHasTheInvariant : Prop := State.reset.Inv

/-- R15 to R24: which commands write which state; what a command's rule does not name, no command
touches. The clauses on inputs, response and draws are about the model's own fields (log entries 1
and 3). -/
def Obligations.OnlyTheNamedCommandsWriteEachField : Prop :=
  ∀ (i : Instr) (s t : State), exec i s = .next t →
    t.opa = s.opa ∧ t.opb = s.opb ∧ t.inputs = s.inputs ∧ t.response = s.response ∧
    t.draws = s.draws ∧ t.busy = false ∧
    (t.res ≠ s.res →
      i ≠ .clear ∧ i ≠ .twist ∧ i ≠ .untwist ∧ i ≠ .offset ∧ ∀ width, i ≠ .submitp width) ∧
    (t.buf ≠ s.buf →
      i ∈ [.submit, .check false, .clear, .twist, .untwist, .predict, .offset]) ∧
    (t.fill ≠ s.fill → i = .submit ∨ i = .clear) ∧
    (t.cursor ≠ s.cursor → i ∈ [.check false, .clear, .twist, .predict, .offset]) ∧
    (t.ledger ≠ s.ledger → i = .submit ∨ i = .clear ∨ ∃ width, i = .submitp width) ∧
    (t.mode ≠ s.mode → (i = .clear ∧ t.mode = .direct) ∨
      ((∃ width, i = .submitp width) ∧ t.mode = .matrix)) ∧
    (t.ready ≠ s.ready → (i = .check false ∧ t.ready = true) ∨ (i = .clear ∧ t.ready = false)) ∧
    (t.fatal ≠ s.fatal → i = .check false ∧ t.fatal = true)

/-! ### The ALU -/

/-- R67: AND. -/
def Obligations.AndWritesTheConjunction : Prop :=
  decode 0x01000000 = .ok .and ∧ ∀ s : State, s.fatal = false →
    Completes (exec .and s) (State.succeeded { s with res := s.opa &&& s.opb }) ∧
    ∀ j : Nat, (s.opa &&& s.opb).getLsbD j = (s.opa.getLsbD j && s.opb.getLsbD j)

/-- R68: OR. -/
def Obligations.OrWritesTheDisjunction : Prop :=
  decode 0x02000000 = .ok .or ∧ ∀ s : State, s.fatal = false →
    Completes (exec .or s) (State.succeeded { s with res := s.opa ||| s.opb })

/-- R69: XOR. -/
def Obligations.XorWritesTheSum : Prop :=
  decode 0x03000000 = .ok .xor ∧ ∀ s : State, s.fatal = false →
    Completes (exec .xor s) (State.succeeded { s with res := s.opa ^^^ s.opb })

/-- R70, R71: SHL and SHR, bit by bit, with zero fill and no sign extension; OPB is not read. -/
def Obligations.ShiftsFillWithZeros : Prop :=
  ∀ (sh : Nat) (s : State), sh < 32 → s.fatal = false →
    decode (0x04000000 ||| BitVec.ofNat 32 sh <<< 16) = .ok (.shl sh) ∧
    decode (0x05000000 ||| BitVec.ofNat 32 sh <<< 16) = .ok (.shr sh) ∧
    ∃ left right : Word,
      Completes (exec (.shl sh) s) (State.succeeded { s with res := left }) ∧
      Completes (exec (.shr sh) s) (State.succeeded { s with res := right }) ∧
      ∀ j : Nat, j < 32 →
        left.getLsbD j = (if sh ≤ j then s.opa.getLsbD (j - sh) else false) ∧
        right.getLsbD j = (if j + sh ≤ 31 then s.opa.getLsbD (j + sh) else false)

/-! ### The tempering unit -/

/-- R73, R74, R80, R81: XSHR and XSHL, bit by bit. -/
def Obligations.ShiftXorCommandsCombineBits : Prop :=
  ∀ (sh : Nat) (s : State), sh < 32 → s.fatal = false →
    decode (0x10000000 ||| BitVec.ofNat 32 sh <<< 16) = .ok (.xshr sh) ∧
    decode (0x11000000 ||| BitVec.ofNat 32 sh <<< 16) = .ok (.xshl sh) ∧
    Completes (exec (.xshr sh) s)
      (State.succeeded { s with res := s.opa ^^^ ((s.opa >>> sh) &&& s.opb) }) ∧
    Completes (exec (.xshl sh) s)
      (State.succeeded { s with res := s.opa ^^^ ((s.opa <<< sh) &&& s.opb) }) ∧
    ∀ j : Nat, j < 32 →
      (xshr s.opa sh s.opb).getLsbD j =
        (if j + sh ≤ 31 then s.opa.getLsbD j ^^ (s.opb.getLsbD j && s.opa.getLsbD (j + sh))
          else s.opa.getLsbD j) ∧
      (xshl s.opa sh s.opb).getLsbD j =
        (if sh ≤ j then s.opa.getLsbD j ^^ (s.opb.getLsbD j && s.opa.getLsbD (j - sh))
          else s.opa.getLsbD j)

/-- R75, R76 (b) and (c): with a shift the solver finds the one word that the step maps to y; with
shift 0 it fails exactly when the mask is not 0. -/
def Obligations.SolverFindsTheUniquePreimage : Prop :=
  (∀ (y x : Word) (s : Nat) (m : Word) (dir : Direction), 1 ≤ s → s < 32 →
    (solve y s m dir = some x ↔ shiftXor dir x s m = y)) ∧
  (∀ (y : Word) (s : Nat) (m : Word) (dir : Direction), 1 ≤ s → s < 32 →
    ∃ x, solve y s m dir = some x) ∧
  ∀ (y m : Word) (dir : Direction), solve y 0 m dir = if m = 0 then some y else none

/-- R76 (d): the closed form of the solver, ceil(32/s) repetitions. -/
def Obligations.SolverHasTheClosedForm : Prop :=
  ∀ (y : Word) (s : Nat) (m : Word), 1 ≤ s → s < 32 →
    solve y s m .left = some (Nat.iterate (fun x : Word => y ^^^ ((x <<< s) &&& m)) ((31 + s) / s) y) ∧
    solve y s m .right = some (Nat.iterate (fun x : Word => y ^^^ ((x >>> s) &&& m)) ((31 + s) / s) y)

/-- R82: IXSHR. -/
def Obligations.IxshrInvertsTheRightStep : Prop :=
  ∀ (sh : Nat) (s : State), sh < 32 → s.fatal = false →
    decode (0x12000000 ||| BitVec.ofNat 32 sh <<< 16) = .ok (.ixshr sh) ∧
    (1 ≤ sh → ∃ r : Word, solve s.opa sh s.opb .right = some r ∧
      xshr r sh s.opb = s.opa ∧ (∀ x, xshr x sh s.opb = s.opa → x = r) ∧
      Completes (exec (.ixshr sh) s) (State.succeeded { s with res := r })) ∧
    (sh = 0 → s.opb = 0 → Completes (exec (.ixshr sh) s) (State.succeeded { s with res := s.opa })) ∧
    (sh = 0 → s.opb ≠ 0 → Completes (exec (.ixshr sh) s) (s.failed 5))

/-- R83: IXSHL. -/
def Obligations.IxshlInvertsTheLeftStep : Prop :=
  ∀ (sh : Nat) (s : State), sh < 32 → s.fatal = false →
    decode (0x13000000 ||| BitVec.ofNat 32 sh <<< 16) = .ok (.ixshl sh) ∧
    (1 ≤ sh → ∃ r : Word, solve s.opa sh s.opb .left = some r ∧
      xshl r sh s.opb = s.opa ∧ (∀ x, xshl x sh s.opb = s.opa → x = r) ∧
      Completes (exec (.ixshl sh) s) (State.succeeded { s with res := r })) ∧
    (sh = 0 → s.opb = 0 → Completes (exec (.ixshl sh) s) (State.succeeded { s with res := s.opa })) ∧
    (sh = 0 → s.opb ≠ 0 → Completes (exec (.ixshl sh) s) (s.failed 5))

/-- R79: the tempering laws. -/
def Obligations.TemperingIsALinearBijection : Prop :=
  (∀ x : Word, unharden (harden x) = x ∧ harden (unharden x) = x) ∧
  Function.Bijective harden ∧ Function.Bijective unharden ∧
  (∀ a b : Word, harden (a ^^^ b) = harden a ^^^ harden b ∧
    unharden (a ^^^ b) = unharden a ^^^ unharden b) ∧
  harden 0 = 0

/-- R77, R84: TEMPER runs the four steps in order. -/
def Obligations.TemperRunsTheFourSteps : Prop :=
  decode 0x14000000 = .ok .temper ∧ ∀ s : State, s.fatal = false →
    Completes (exec .temper s) (State.succeeded { s with
      res := xshr (xshl (xshl (xshr s.opa 11 0xFFFFFFFF) 7 0x9D2C5680) 15 0xEFC60000) 18
        0xFFFFFFFF })

/-- R78, R85: UNTEMPER undoes the four steps in strict reverse order, and no solver run of it
fails. -/
def Obligations.UntemperUndoesTheFourSteps : Prop :=
  decode 0x15000000 = .ok .untemper ∧ ∀ s : State, s.fatal = false →
    ∃ v3 v2 v1 r : Word, solve s.opa 18 0xFFFFFFFF .right = some v3 ∧
      solve v3 15 0xEFC60000 .left = some v2 ∧ solve v2 7 0x9D2C5680 .left = some v1 ∧
      solve v1 11 0xFFFFFFFF .right = some r ∧
      Completes (exec .untemper s) (State.succeeded { s with res := r })

/-! ### The state buffer controller -/

/-- R86: a push moves every word one place down, and after p pushes with p at least 624 BUF holds
the last 624 words, oldest first, with FILL = 624; sat32 is the minimum with 0xFFFFFFFF. -/
def Obligations.PushesKeepTheLast624Words : Prop :=
  (∀ (s : State) (v : Word), (s.push v).fill.val = min 624 (s.fill.val + 1) ∧
    (s.push v).buf.word 623 = v ∧
    ∀ k, k < 623 → (s.push v).buf.word k = s.buf.word (k + 1)) ∧
  (∀ (s : State) (u : Nat → Word) (p k : Nat), 624 ≤ p → k < 624 →
    ((List.range p).foldl (fun s i => s.push (u (i + 1))) s).buf.word k = u (p - 623 + k) ∧
    ((List.range p).foldl (fun s i => s.push (u (i + 1))) s).fill.val = 624) ∧
  ∀ a : Nat, (sat32 a).toNat = min a 0xFFFFFFFF

/-- R87: SUBMIT. -/
def Obligations.SubmitPushesTheRawWord : Prop :=
  decode 0x20000000 = .ok .submit ∧ ∀ s : State, s.fatal = false →
    (s.ready = true → Completes (exec .submit s) (s.failed 6)) ∧
    (s.ready = false → s.mode = .direct →
      ∃ (l : Word) (b : Buf) (f : Fin 625),
        Completes (exec .submit s) (State.succeeded { s with
          ledger := l, buf := b, fill := f, res := unharden s.opa }) ∧
        l.toNat = min (s.ledger.toNat + 32) 0xFFFFFFFF ∧ f.val = min 624 (s.fill.val + 1) ∧
        b.word 623 = unharden s.opa ∧ ∀ k, k < 623 → b.word k = s.buf.word (k + 1)) ∧
    (s.ready = false → s.mode = .matrix →
      ∃ l : Word, Completes (exec .submit s) (State.succeeded { s with ledger := l }) ∧
        l.toNat = min (s.ledger.toNat + 32) 0xFFFFFFFF)

/-- R88: SUBMITP. -/
def Obligations.SubmitpCountsBitsAndEntersMatrixMode : Prop :=
  ∀ (width : Nat) (s : State), width < 65536 → s.fatal = false →
    decode (0x21000000 ||| BitVec.ofNat 32 width) = .ok (.submitp width) ∧
    (width = 0 ∨ width % 32 = 0 → Completes (exec (.submitp width) s) (s.failed 5)) ∧
    (width ≠ 0 → width % 32 ≠ 0 → s.ready = true → Completes (exec (.submitp width) s) (s.failed 6)) ∧
    (width ≠ 0 → width % 32 ≠ 0 → s.ready = false →
      ∃ l : Word, l.toNat = min (s.ledger.toNat + width) 0xFFFFFFFF ∧
        Completes (exec (.submitp width) s) (State.succeeded { s with mode := .matrix, ledger := l }))

/-- R90: CHECK, its tests in the spec's order. -/
def Obligations.CheckTestsAndReadies : Prop :=
  decode 0x22000000 = .ok (.check false) ∧ decode 0x22000001 = .ok (.check true) ∧
  ∀ (fm : Bool) (s : State), s.fatal = false →
    (s.ledger.toNat < 19968 → Completes (exec (.check fm) s) (s.failed 1)) ∧
    (19968 ≤ s.ledger.toNat → s.mode = .matrix ∨ fm = true →
      Completes (exec (.check fm) s) (s.failed 3)) ∧
    (19968 ≤ s.ledger.toNat → s.mode = .direct → fm = false →
      (s.ready = true → Completes (exec (.check fm) s) (State.succeeded { s with res := 1 })) ∧
      (s.ready = false → s.fill.val < 624 →
        Completes (exec (.check fm) s) { s.failed 2 with fatal := true }) ∧
      (s.ready = false → s.fill.val = 624 →
        Completes (exec (.check fm) s) (State.succeeded { s with
          buf := twist s.buf, cursor := 0, ready := true, res := 1 })))

/-- R91, R125: CLEAR sets the controller to its reset values and leaves OPA, OPB, RES, ERRSEEN and
FATAL; under the fatal lock it fails with code 2. -/
def Obligations.ClearEmptiesTheController : Prop :=
  decode 0x23000000 = .ok .clear ∧ ∀ s : State,
    (s.fatal = false → ∃ b : Buf, (∀ k, k < 624 → b.word k = 0) ∧
      Completes (exec .clear s) (State.succeeded { s with
        buf := b, fill := 0, cursor := 0, ledger := 0, mode := .direct, ready := false }) ∧
      b = State.reset.buf) ∧
    (s.fatal = true → Completes (exec .clear s) (s.failed 2))

/-! ### The twist engine -/

/-- R94: the three segments compute the same function as the in-place loop of R93: each new word
from old and new words, with the modular indices and mag written out. The constant in mag is the one
R6 states from general knowledge (log entry 9, PRESUMED). -/
def Obligations.TwistIsTheThreeSegments : Prop :=
  let shifted : Word → Word := fun y => (y >>> 1) ^^^ (if y.getLsbD 0 then 0x9908B0DF else 0)
  ∀ b : Buf,
    (∀ k, k < 227 → (twist b).word k = b.word (k + 397) ^^^
      shifted ((b.word k &&& 0x80000000) ||| (b.word (k + 1) &&& 0x7FFFFFFF))) ∧
    (∀ k, 227 ≤ k → k < 623 → (twist b).word k = (twist b).word (k - 227) ^^^
      shifted ((b.word k &&& 0x80000000) ||| (b.word (k + 1) &&& 0x7FFFFFFF))) ∧
    (twist b).word 623 = (twist b).word 396 ^^^
      shifted ((b.word 623 &&& 0x80000000) ||| ((twist b).word 0 &&& 0x7FFFFFFF))

/-- R96, R97 (b): g is the inverse of mag, and every output of twist and of untwist is consistent.
-/
def Obligations.TwistOutputsAreConsistent : Prop :=
  (∀ y : Word, unmag (mag y) = y) ∧ (∀ b : Buf, (twist b).Consistent) ∧
    ∀ b : Buf, (untwist b).Consistent

/-- R97 (c): each round trip holds exactly on the consistent arrays. -/
def Obligations.TwistRoundTripsExactlyWhenConsistent : Prop :=
  ∀ b : Buf, (untwist (twist b) = b ↔ b.Consistent) ∧ (twist (untwist b) = b ↔ b.Consistent)

/-- R97 (a): twist never reads bits [30:0] of word 0. -/
def Obligations.TwistIgnoresTheDeadBits : Prop :=
  ∀ (b : Buf) (v : Word), v.getLsbD 31 = (b.word 0).getLsbD 31 → twist (b.put 0 v) = twist b

/-- R97 (e): twist and untwist are linear over GF(2), and map the zero array to itself. -/
def Obligations.TwistAndUntwistAreLinear : Prop :=
  (∀ a b : Buf, twist (a.xor b) = (twist a).xor (twist b) ∧
    untwist (a.xor b) = (untwist a).xor (untwist b)) ∧
  twist Buf.zero = Buf.zero ∧ untwist Buf.zero = Buf.zero

/-- R98: the sliding window property, for a stream given from position 0 on. -/
def Obligations.TwistSlidesTheWindow : Prop :=
  ∀ x : Nat → Word,
    (∀ n, x (n + 624) = x (n + 397) ^^^
      mag ((x n &&& 0x80000000) ||| (x (n + 1) &&& 0x7FFFFFFF))) →
    ∀ j : Nat, twist (Vector.ofFn fun k : Fin 624 => x (j + k.val)) =
      Vector.ofFn fun k : Fin 624 => x (j + 624 + k.val)

/-- R106: untwist slides a window back by 624 wherever the stream has a word before the window it
comes to, that is from every window but the first. -/
def Obligations.UntwistSlidesTheWindowBack : Prop :=
  ∀ x : Nat → Word,
    (∀ n, x (n + 624) = x (n + 397) ^^^
      mag ((x n &&& 0x80000000) ||| (x (n + 1) &&& 0x7FFFFFFF))) →
    ∀ j : Nat, 1 ≤ j → untwist (Vector.ofFn fun k : Fin 624 => x (j + 624 + k.val)) =
      Vector.ofFn fun k : Fin 624 => x (j + k.val)

/-- R99, R100: TWIST and UNTWIST. -/
def Obligations.TwistCommandsApplyTheEngine : Prop :=
  decode 0x30000000 = .ok .twist ∧ decode 0x31000000 = .ok .untwist ∧
  ∀ s : State, s.fatal = false →
    (s.ready = false → Completes (exec .twist s) (s.failed 1) ∧ Completes (exec .untwist s) (s.failed 1)) ∧
    (s.ready = true →
      Completes (exec .twist s) (State.succeeded { s with buf := twist s.buf, cursor := 0 }) ∧
      Completes (exec .untwist s) (State.succeeded { s with buf := untwist s.buf }))

/-- R97 (d): on a ready block of the invariant, UNTWIST undoes TWIST and TWIST undoes UNTWIST. -/
def Obligations.TwistCommandsUndoEachOther : Prop :=
  ∀ s : State, s.Inv → s.ready = true →
    (∃ t u, exec .twist s = .next t ∧ exec .untwist t = .next u ∧ u.buf = s.buf) ∧
    (∃ t u, exec .untwist s = .next t ∧ exec .twist t = .next u ∧ u.buf = s.buf)

/-! ### The predictor -/

/-- R101, R103: PREDICT, with the lazy twist. -/
def Obligations.PredictReturnsTheNextOutput : Prop :=
  decode 0x40000000 = .ok .predict ∧ ∀ s : State, s.fatal = false →
    (s.ready = false → Completes (exec .predict s) (s.failed 1)) ∧
    (s.ready = true → s.cursor.val = 624 →
      Completes (exec .predict s) (State.succeeded { s with
        buf := twist s.buf, cursor := 1, res := harden ((twist s.buf).word 0) })) ∧
    (s.ready = true → s.cursor.val < 624 →
      ∃ c : Fin 625, c.val = s.cursor.val + 1 ∧
        Completes (exec .predict s) (State.succeeded { s with
          cursor := c, res := harden (s.buf.word s.cursor.val) }))

/-- R104: OFFSET, with its counts; RES is never written. -/
def Obligations.OffsetRunsItsCounts : Prop :=
  decode 0x41000000 = .ok .offset ∧ ∀ s : State, s.fatal = false →
    (s.opa.toInt = 0 → Completes (exec .offset s) s.succeeded) ∧
    (s.opa.toInt ≠ 0 → s.ready = false → Completes (exec .offset s) (s.failed 1)) ∧
    (0 < s.opa.toInt → s.ready = true →
      Completes (exec .offset s) (State.succeeded { s with
        buf := (Nat.iterate predictStep s.opa.toInt.toNat s).buf
        cursor := (Nat.iterate predictStep s.opa.toInt.toNat s).cursor })) ∧
    (s.opa.toInt < 0 → s.ready = true → ∀ m : Nat, (m : Int) = -s.opa.toInt →
      let back : State := { s with buf := Nat.iterate untwist (m / 624 + 1) s.buf }
      Completes (exec .offset s) (State.succeeded { s with
        buf := (Nat.iterate predictStep (624 - m % 624) back).buf
        cursor := (Nat.iterate predictStep (624 - m % 624) back).cursor }))

/-- R101, R102: on a stream, PREDICT returns the output at the stream position and moves it by 1,
whether or not it twists. -/
def Obligations.PredictFollowsTheStream : Prop :=
  ∀ (x : Int → Word) (j : Int) (s : State), Stream x → s.fatal = false → s.ready = true →
    s.buf = window x j →
    ∃ (t : State) (j' : Int), exec .predict s = .next t ∧
      t.res = harden (x (j + s.cursor.val)) ∧ t.ready = true ∧ t.fatal = false ∧
      t.buf = window x j' ∧ j' + t.cursor.val = j + s.cursor.val + 1

/-- R102, R105: on a stream, the net effect of OFFSET is to move the position by n, forward or
back. -/
def Obligations.OffsetMovesThePosition : Prop :=
  ∀ (x : Int → Word) (j : Int) (s : State), Stream x → s.fatal = false → s.ready = true →
    s.buf = window x j →
    ∃ (t : State) (j' : Int), exec .offset s = .next t ∧ t.res = s.res ∧ t.ready = true ∧
      t.fatal = false ∧ t.buf = window x j' ∧ j' + t.cursor.val = j + s.cursor.val + s.opa.toInt

/-- R102: on a stream, TWIST moves the position to j + 624 and UNTWIST moves it back by 624. -/
def Obligations.TwistCommandsMoveThePosition : Prop :=
  ∀ (x : Int → Word) (j : Int) (s : State), Stream x → s.fatal = false → s.ready = true →
    s.buf = window x j →
    (∃ t, exec .twist s = .next t ∧ t.ready = true ∧ t.fatal = false ∧
      t.buf = window x (j + 624) ∧ t.cursor = 0) ∧
    ∃ t, exec .untwist s = .next t ∧ t.ready = true ∧ t.fatal = false ∧
      t.buf = window x (j - 624) ∧ t.cursor = s.cursor

/-- R92 (c), and the source's reconstruction fidelity: after p SUBMITs of consecutive outputs of a
stream, p at least 624, CHECK readies the block and PREDICT returns output p. -/
def Obligations.ReconstructionPredictsTheStream : Prop :=
  ∀ (x : Int → Word) (p : Nat) (s : State), Stream x → 624 ≤ p → s.fatal = false →
    s.ready = false → s.mode = .direct →
    ∃ t u v : State,
      runWith ((List.range p).map fun k => (harden (x (k : Int)), Instr.submit)) s = .next t ∧
      exec (.check false) t = .next u ∧ u.err = 0 ∧ u.res = 1 ∧ u.ready = true ∧
      u.buf = window x p ∧ u.cursor = 0 ∧
      exec .predict u = .next v ∧ v.res = harden (x (p : Int))

/-- R92 (b): after p SUBMITs of any observed words, p at least 624, CHECK leaves in BUF the twist of the
raw words of the last 624 of them, oldest first. -/
def Obligations.CheckTwistsTheLast624Submissions : Prop :=
  ∀ (vs : List Word) (s : State), 624 ≤ vs.length → s.fatal = false → s.ready = false →
    s.mode = .direct →
    ∃ t u : State, runWith (vs.map fun v => (v, Instr.submit)) s = .next t ∧
      exec (.check false) t = .next u ∧ u.err = 0 ∧ u.ready = true ∧
      u.buf = twist (Vector.ofFn fun k : Fin 624 =>
        unharden (vs.getD (vs.length - 624 + k.val) 0))

/-! ### The host interface -/

/-- R123: the reset values. -/
def Obligations.ResetValuesAreTheSpecs : Prop :=
  State.reset.opa = 0 ∧ State.reset.opb = 0 ∧ State.reset.res = 0 ∧
    (∀ k, k < 624 → State.reset.buf.word k = 0) ∧ State.reset.fill.val = 0 ∧
    State.reset.cursor.val = 0 ∧ State.reset.ledger = 0 ∧ State.reset.mode = .direct ∧
    State.reset.ready = false ∧ State.reset.fatal = false ∧ State.reset.err = 0 ∧
    State.reset.errSeen = false ∧ State.reset.busy = false ∧ State.reset.status = 0 ∧
    Register.id.value State.reset = 0x4D543139

/-- R124: the reset input, also while BUSY = 1, leaves every architectural field at its reset
value, and the command in flight has no effect. Which response an access in progress gets is open.
What it keeps of the model's own fields is the model's choice (log entry 14). -/
def Obligations.ResetInputAbandonsTheCommand : Prop :=
  ∀ (s : State) (i : Option Access) (rest : List HostEvent), s.inputs = .reset i :: rest →
    (s.busy = false ∨ s.latency ≠ 0) →
    ∃ (r : Option Response) (d : Nat),
      step s = .next { State.reset with inputs := rest, response := r, draws := d } ∧
      (i = none → r = s.response)

/-- R37: a CMD write. The count of the latency and of the draws is the model's own (log entry 2).
-/
def Obligations.CmdWriteIssuesOneCommand : Prop :=
  ∀ (s : State) (w : Word) (rest : List HostEvent),
    s.inputs = .access (.write 0x004 32 w) :: rest →
    (s.busy = false → ∃ n : Nat, step s = .next { s with
      inputs := rest, busy := true, pending := w, latency := n, response := some .ok
      draws := s.draws + 1 }) ∧
    (s.busy = true → s.latency ≠ 0 → step s = .next { s with
      inputs := rest, latency := s.latency - 1, response := some .busErr })

/-- R38: the writes of OPA and OPB. The count of the latency is the model's own (log entry 2). -/
def Obligations.OperandWritesStoreOnlyWhenIdle : Prop :=
  ∀ (s : State) (v : Word) (rest : List HostEvent),
    (s.inputs = .access (.write 0x008 32 v) :: rest → s.busy = false →
      step s = .next { s with
        inputs := rest, latency := s.latency - 1, opa := v, response := some .ok }) ∧
    (s.inputs = .access (.write 0x00C 32 v) :: rest → s.busy = false →
      step s = .next { s with
        inputs := rest, latency := s.latency - 1, opb := v, response := some .ok }) ∧
    ((s.inputs = .access (.write 0x008 32 v) :: rest ∨
        s.inputs = .access (.write 0x00C 32 v) :: rest) → s.busy = true → s.latency ≠ 0 →
      step s = .next { s with
        inputs := rest, latency := s.latency - 1, response := some .busErr })

/-- R35, R36, R39, R40: every 32-bit read with BUSY = 0, offset by offset; it changes nothing else.
The count of the latency is the model's own (log entry 2). -/
def Obligations.IdleReadsFollowTheRegisterMap : Prop :=
  ∀ (s : State) (offset : BitVec 13) (rest : List HostEvent), s.busy = false →
    s.inputs = .access (.read offset 32) :: rest →
    step s = .next { s with
      inputs := rest
      latency := s.latency - 1
      response := some (
        let off := offset.toNat
        if off = 0x000 then .data 0x4D543139
        else if off = 0x004 then .data 0
        else if off = 0x008 then .data s.opa
        else if off = 0x00C then .data s.opb
        else if off = 0x010 then .data s.res
        else if off = 0x014 then .data s.status
        else if off = 0x018 then .data (BitVec.ofNat 32 s.fill.val)
        else if off = 0x01C then .data (BitVec.ofNat 32 s.cursor.val)
        else if off = 0x020 then .data s.ledger
        else if 0x1000 ≤ off ∧ off ≤ 0x19BC ∧ off % 4 = 0 then
          .data (s.buf.word ((off - 0x1000) / 4))
        else .busErr) }

/-- R39, R40, R41, R43: the accesses that get BUSERR in every state; they have no effect, and a
BUSERR writes neither ERR nor ERRSEEN. The count of the latency is the model's own (log entry 2).
-/
def Obligations.RefusedAccessesHaveNoEffect : Prop :=
  ∀ (s : State) (a : Access) (rest : List HostEvent), s.inputs = .access a :: rest →
    (s.busy = false ∨ s.latency ≠ 0) →
    (∃ (offset : BitVec 13) (bits : Nat) (v : Word),
      (a = .read offset bits ∨ a = .write offset bits v) ∧
        (bits ≠ 32 ∨ offset.toNat % 4 ≠ 0 ∨
          (0x024 ≤ offset.toNat ∧ offset.toNat ≤ 0xFFC) ∨ 0x19C0 ≤ offset.toNat)) ∨
    (∃ (offset : BitVec 13) (v : Word), a = .write offset 32 v ∧
      (offset.toNat = 0x000 ∨ 0x010 ≤ offset.toNat)) →
    step s = .next { s with
      inputs := rest, latency := s.latency - 1, response := some .busErr }

/-- R131: the reads while BUSY = 1. ID, CMD and bit 9 of STATUS are specified; the word of any
other read is free, and the read changes nothing else. The counts of the latency and of the draws
are the model's own (log entries 2 and 3). -/
def Obligations.BusyReadsAreUnspecified : Prop :=
  ∀ (s : State) (offset : BitVec 13) (rest : List HostEvent) (r : Register), s.busy = true →
    s.latency ≠ 0 → s.inputs = .access (.read offset 32) :: rest →
    registerAt offset.toNat = some r →
    ∃ w : Word, step s = .next { s with
        inputs := rest, latency := s.latency - 1, response := some (.data w)
        draws := s.draws + 1 } ∧
      (offset.toNat = 0x000 → w = 0x4D543139) ∧ (offset.toNat = 0x004 → w = 0) ∧
      (offset.toNat = 0x014 → w.getLsbD 9 = true)

/-- R130: the polling loop. With BUSY = 1 the STATUS read shows bit 9 and the host polls again; the
read that returns BUSY = 0 returns STATUS in full and ends the loop. The poll event and the counts
are the model's own (log entries 2, 3 and 15). -/
def Obligations.PollingEndsWithTheFullStatus : Prop :=
  ∀ (s : State) (rest : List HostEvent), s.inputs = .poll :: rest →
    (s.busy = false → step s = .next { s with
        inputs := rest, latency := s.latency - 1, response := some (.data s.status) } ∧
      s.status.getLsbD 9 = false ∧ s.status.extractLsb' 0 4 = s.err) ∧
    (s.busy = true → s.latency ≠ 0 → ∃ w : Word, w.getLsbD 9 = true ∧
      step s = .next { s with
        latency := s.latency - 1, response := some (.data w), draws := s.draws + 1 })

/-- R29, R30: the fields of STATUS, bit by bit, and the counter registers' fields. -/
def Obligations.StatusShowsItsFields : Prop :=
  ∀ s : State, s.status.extractLsb' 0 4 = s.err ∧ s.status.getLsbD 4 = s.ready ∧
    (s.status.getLsbD 5 = true ↔ s.mode = .matrix) ∧
    (s.status.getLsbD 6 = true ↔ s.fill.val = 624) ∧ s.status.getLsbD 7 = s.fatal ∧
    s.status.getLsbD 8 = s.errSeen ∧ s.status.getLsbD 9 = s.busy ∧
    (∀ j, 10 ≤ j → s.status.getLsbD j = false) ∧
    (Register.fill.value s).toNat = s.fill.val ∧ (Register.cursor.value s).toNat = s.cursor.val ∧
    Register.ledger.value s = s.ledger

/-- R36 to R39, R44 (b): a host's turn without a reset leaves the controller alone; OPA and OPB
change only by their own writes with BUSY = 0, and BUSY rises only by a CMD write. When the host
moves is the model's choice (log entries 1 and 2). -/
def Obligations.BusAccessesLeaveTheControllerAlone : Prop :=
  ∀ s t : State, sequencerTurn s = false → (∀ i rest, s.inputs ≠ .reset i :: rest) →
    step s = .next t →
    SameController s t ∧
    (t.opa ≠ s.opa → s.busy = false ∧ ∃ v rest, s.inputs = .access (.write 0x008 32 v) :: rest) ∧
    (t.opb ≠ s.opb → s.busy = false ∧ ∃ v rest, s.inputs = .access (.write 0x00C 32 v) :: rest) ∧
    (t.busy ≠ s.busy → t.busy = true ∧ ∃ w rest, s.inputs = .access (.write 0x004 32 w) :: rest) ∧
    (s.busy = true → t.pending = s.pending)

/-- R132, R133, R134, R47 (b) and (c): a command in flight comes to its completion step after at
most its remaining latency in host events, unless the reset input is among them; until then its
word, its operands and the controller stay as they are, and that step completes it, with BUSY = 0.
The bound by the latency is the model's form of LAT (log entry 2). -/
def Obligations.CommandInFlightCompletes : Prop :=
  ∀ s : State, s.busy = true → (∀ e ∈ s.inputs, ∀ i, e ≠ .reset i) →
    ∃ k, k ≤ s.latency ∧ ∃ u : State, core.run k s = .next u ∧ sequencerTurn u = true ∧
      u.pending = s.pending ∧ u.opa = s.opa ∧ u.opb = s.opb ∧ SameController s u ∧
      ∃ t : State, step u = .next t ∧ t.busy = false

/-- R63, R37, R47 (d), R130, R134: a command line on an idle block, the CMD write and the polling
loop, runs to an idle block that holds exactly the effects of the command, and the host's last
response is that command's STATUS; only the model's own count of draws is left open. The events and
the cleared word are the model's form (log entries 2, 13 and 15). -/
def Obligations.CommandLineRunsItsCommand : Prop :=
  ∀ (s : State) (i : Instr) (rest : List HostEvent), i.WellFormed → s.busy = false →
    s.inputs = commandLine i ++ rest →
    ∃ (k : Nat) (t u : State), exec i s = .next t ∧ core.run k s = .next u ∧
      u = { t with inputs := rest, response := some (.data t.status), draws := u.draws }

/-- R42: little-endian lanes, and the four lanes carry the whole word. -/
def Obligations.LanesAreLittleEndian : Prop :=
  (∀ (w : Word) (b : Fin 4) (j : Nat), j < 8 → (lane w b).getLsbD j = w.getLsbD (8 * b.val + j)) ∧
    ∀ w : Word, ofLanes (lane w 0) (lane w 1) (lane w 2) (lane w 3) = w

/-- R34, R45: the window is the 8 KiB at BASE, which is 8 KiB aligned. The address decoding is the
model's own (log entry 5). -/
def Obligations.WindowIsEightKibAtBase : Prop :=
  Config.base % 8192 = 0 ∧
  (∀ off : Nat, off < 8192 → windowOffset (Config.base + off) = some (BitVec.ofNat 13 off)) ∧
  ∀ addr : Nat, (∀ off, off < 8192 → addr ≠ Config.base + off) → windowOffset addr = none
end

