-- ==== Sys2Proof/Laws/State.lean ====
section
/-! SUPPORT. What each update of the state does to each field: one lemma per field per update, all of
them true by unfolding, so that no later proof unfolds a record update. -/

namespace Sys2Proof.Machine

@[simp] theorem State.setRes_opa (s : State) (w : Word) : (s.setRes w).opa = s.opa := rfl
@[simp] theorem State.setRes_opb (s : State) (w : Word) : (s.setRes w).opb = s.opb := rfl
@[simp] theorem State.setRes_res (s : State) (w : Word) : (s.setRes w).res = w := rfl
@[simp] theorem State.setRes_buf (s : State) (w : Word) : (s.setRes w).buf = s.buf := rfl
@[simp] theorem State.setRes_fill (s : State) (w : Word) : (s.setRes w).fill = s.fill := rfl
@[simp] theorem State.setRes_cursor (s : State) (w : Word) : (s.setRes w).cursor = s.cursor := rfl
@[simp] theorem State.setRes_ledger (s : State) (w : Word) : (s.setRes w).ledger = s.ledger := rfl
@[simp] theorem State.setRes_mode (s : State) (w : Word) : (s.setRes w).mode = s.mode := rfl
@[simp] theorem State.setRes_ready (s : State) (w : Word) : (s.setRes w).ready = s.ready := rfl
@[simp] theorem State.setRes_fatal (s : State) (w : Word) : (s.setRes w).fatal = s.fatal := rfl
@[simp] theorem State.setRes_err (s : State) (w : Word) : (s.setRes w).err = s.err := rfl
@[simp] theorem State.setRes_errSeen (s : State) (w : Word) :
    (s.setRes w).errSeen = s.errSeen := rfl
@[simp] theorem State.setRes_busy (s : State) (w : Word) : (s.setRes w).busy = s.busy := rfl
@[simp] theorem State.setRes_pending (s : State) (w : Word) :
    (s.setRes w).pending = s.pending := rfl
@[simp] theorem State.setRes_latency (s : State) (w : Word) :
    (s.setRes w).latency = s.latency := rfl
@[simp] theorem State.setRes_inputs (s : State) (w : Word) : (s.setRes w).inputs = s.inputs := rfl
@[simp] theorem State.setRes_response (s : State) (w : Word) :
    (s.setRes w).response = s.response := rfl
@[simp] theorem State.setRes_draws (s : State) (w : Word) : (s.setRes w).draws = s.draws := rfl

@[simp] theorem State.setBuf_opa (s : State) (b : Buf) : (s.setBuf b).opa = s.opa := rfl
@[simp] theorem State.setBuf_opb (s : State) (b : Buf) : (s.setBuf b).opb = s.opb := rfl
@[simp] theorem State.setBuf_res (s : State) (b : Buf) : (s.setBuf b).res = s.res := rfl
@[simp] theorem State.setBuf_buf (s : State) (b : Buf) : (s.setBuf b).buf = b := rfl
@[simp] theorem State.setBuf_fill (s : State) (b : Buf) : (s.setBuf b).fill = s.fill := rfl
@[simp] theorem State.setBuf_cursor (s : State) (b : Buf) : (s.setBuf b).cursor = s.cursor := rfl
@[simp] theorem State.setBuf_ledger (s : State) (b : Buf) : (s.setBuf b).ledger = s.ledger := rfl
@[simp] theorem State.setBuf_mode (s : State) (b : Buf) : (s.setBuf b).mode = s.mode := rfl
@[simp] theorem State.setBuf_ready (s : State) (b : Buf) : (s.setBuf b).ready = s.ready := rfl
@[simp] theorem State.setBuf_fatal (s : State) (b : Buf) : (s.setBuf b).fatal = s.fatal := rfl
@[simp] theorem State.setBuf_err (s : State) (b : Buf) : (s.setBuf b).err = s.err := rfl
@[simp] theorem State.setBuf_errSeen (s : State) (b : Buf) : (s.setBuf b).errSeen = s.errSeen := rfl
@[simp] theorem State.setBuf_busy (s : State) (b : Buf) : (s.setBuf b).busy = s.busy := rfl
@[simp] theorem State.setBuf_pending (s : State) (b : Buf) : (s.setBuf b).pending = s.pending := rfl
@[simp] theorem State.setBuf_latency (s : State) (b : Buf) : (s.setBuf b).latency = s.latency := rfl
@[simp] theorem State.setBuf_inputs (s : State) (b : Buf) : (s.setBuf b).inputs = s.inputs := rfl
@[simp] theorem State.setBuf_response (s : State) (b : Buf) :
    (s.setBuf b).response = s.response := rfl
@[simp] theorem State.setBuf_draws (s : State) (b : Buf) : (s.setBuf b).draws = s.draws := rfl

@[simp] theorem State.setCursor_opa (s : State) (c : Fin 625) : (s.setCursor c).opa = s.opa := rfl
@[simp] theorem State.setCursor_opb (s : State) (c : Fin 625) : (s.setCursor c).opb = s.opb := rfl
@[simp] theorem State.setCursor_res (s : State) (c : Fin 625) : (s.setCursor c).res = s.res := rfl
@[simp] theorem State.setCursor_buf (s : State) (c : Fin 625) : (s.setCursor c).buf = s.buf := rfl
@[simp] theorem State.setCursor_fill (s : State) (c : Fin 625) :
    (s.setCursor c).fill = s.fill := rfl
@[simp] theorem State.setCursor_cursor (s : State) (c : Fin 625) : (s.setCursor c).cursor = c := rfl
@[simp] theorem State.setCursor_ledger (s : State) (c : Fin 625) :
    (s.setCursor c).ledger = s.ledger := rfl
@[simp] theorem State.setCursor_mode (s : State) (c : Fin 625) :
    (s.setCursor c).mode = s.mode := rfl
@[simp] theorem State.setCursor_ready (s : State) (c : Fin 625) :
    (s.setCursor c).ready = s.ready := rfl
@[simp] theorem State.setCursor_fatal (s : State) (c : Fin 625) :
    (s.setCursor c).fatal = s.fatal := rfl
@[simp] theorem State.setCursor_err (s : State) (c : Fin 625) : (s.setCursor c).err = s.err := rfl
@[simp] theorem State.setCursor_errSeen (s : State) (c : Fin 625) :
    (s.setCursor c).errSeen = s.errSeen := rfl
@[simp] theorem State.setCursor_busy (s : State) (c : Fin 625) :
    (s.setCursor c).busy = s.busy := rfl
@[simp] theorem State.setCursor_pending (s : State) (c : Fin 625) :
    (s.setCursor c).pending = s.pending := rfl
@[simp] theorem State.setCursor_latency (s : State) (c : Fin 625) :
    (s.setCursor c).latency = s.latency := rfl
@[simp] theorem State.setCursor_inputs (s : State) (c : Fin 625) :
    (s.setCursor c).inputs = s.inputs := rfl
@[simp] theorem State.setCursor_response (s : State) (c : Fin 625) :
    (s.setCursor c).response = s.response := rfl
@[simp] theorem State.setCursor_draws (s : State) (c : Fin 625) :
    (s.setCursor c).draws = s.draws := rfl

@[simp] theorem State.markReady_opa (s : State) : s.markReady.opa = s.opa := rfl
@[simp] theorem State.markReady_opb (s : State) : s.markReady.opb = s.opb := rfl
@[simp] theorem State.markReady_res (s : State) : s.markReady.res = s.res := rfl
@[simp] theorem State.markReady_buf (s : State) : s.markReady.buf = s.buf := rfl
@[simp] theorem State.markReady_fill (s : State) : s.markReady.fill = s.fill := rfl
@[simp] theorem State.markReady_cursor (s : State) : s.markReady.cursor = s.cursor := rfl
@[simp] theorem State.markReady_ledger (s : State) : s.markReady.ledger = s.ledger := rfl
@[simp] theorem State.markReady_mode (s : State) : s.markReady.mode = s.mode := rfl
@[simp] theorem State.markReady_ready (s : State) : s.markReady.ready = true := rfl
@[simp] theorem State.markReady_fatal (s : State) : s.markReady.fatal = s.fatal := rfl
@[simp] theorem State.markReady_err (s : State) : s.markReady.err = s.err := rfl
@[simp] theorem State.markReady_errSeen (s : State) : s.markReady.errSeen = s.errSeen := rfl
@[simp] theorem State.markReady_busy (s : State) : s.markReady.busy = s.busy := rfl
@[simp] theorem State.markReady_pending (s : State) : s.markReady.pending = s.pending := rfl
@[simp] theorem State.markReady_latency (s : State) : s.markReady.latency = s.latency := rfl
@[simp] theorem State.markReady_inputs (s : State) : s.markReady.inputs = s.inputs := rfl
@[simp] theorem State.markReady_response (s : State) : s.markReady.response = s.response := rfl
@[simp] theorem State.markReady_draws (s : State) : s.markReady.draws = s.draws := rfl

@[simp] theorem State.toMatrix_opa (s : State) : s.toMatrix.opa = s.opa := rfl
@[simp] theorem State.toMatrix_opb (s : State) : s.toMatrix.opb = s.opb := rfl
@[simp] theorem State.toMatrix_res (s : State) : s.toMatrix.res = s.res := rfl
@[simp] theorem State.toMatrix_buf (s : State) : s.toMatrix.buf = s.buf := rfl
@[simp] theorem State.toMatrix_fill (s : State) : s.toMatrix.fill = s.fill := rfl
@[simp] theorem State.toMatrix_cursor (s : State) : s.toMatrix.cursor = s.cursor := rfl
@[simp] theorem State.toMatrix_ledger (s : State) : s.toMatrix.ledger = s.ledger := rfl
@[simp] theorem State.toMatrix_mode (s : State) : s.toMatrix.mode = .matrix := rfl
@[simp] theorem State.toMatrix_ready (s : State) : s.toMatrix.ready = s.ready := rfl
@[simp] theorem State.toMatrix_fatal (s : State) : s.toMatrix.fatal = s.fatal := rfl
@[simp] theorem State.toMatrix_err (s : State) : s.toMatrix.err = s.err := rfl
@[simp] theorem State.toMatrix_errSeen (s : State) : s.toMatrix.errSeen = s.errSeen := rfl
@[simp] theorem State.toMatrix_busy (s : State) : s.toMatrix.busy = s.busy := rfl
@[simp] theorem State.toMatrix_pending (s : State) : s.toMatrix.pending = s.pending := rfl
@[simp] theorem State.toMatrix_latency (s : State) : s.toMatrix.latency = s.latency := rfl
@[simp] theorem State.toMatrix_inputs (s : State) : s.toMatrix.inputs = s.inputs := rfl
@[simp] theorem State.toMatrix_response (s : State) : s.toMatrix.response = s.response := rfl
@[simp] theorem State.toMatrix_draws (s : State) : s.toMatrix.draws = s.draws := rfl

@[simp] theorem State.addBits_opa (s : State) (n : Nat) : (s.addBits n).opa = s.opa := rfl
@[simp] theorem State.addBits_opb (s : State) (n : Nat) : (s.addBits n).opb = s.opb := rfl
@[simp] theorem State.addBits_res (s : State) (n : Nat) : (s.addBits n).res = s.res := rfl
@[simp] theorem State.addBits_buf (s : State) (n : Nat) : (s.addBits n).buf = s.buf := rfl
@[simp] theorem State.addBits_fill (s : State) (n : Nat) : (s.addBits n).fill = s.fill := rfl
@[simp] theorem State.addBits_cursor (s : State) (n : Nat) : (s.addBits n).cursor = s.cursor := rfl
@[simp] theorem State.addBits_ledger (s : State) (n : Nat) :
    (s.addBits n).ledger = sat32 (s.ledger.toNat + n) := rfl
@[simp] theorem State.addBits_mode (s : State) (n : Nat) : (s.addBits n).mode = s.mode := rfl
@[simp] theorem State.addBits_ready (s : State) (n : Nat) : (s.addBits n).ready = s.ready := rfl
@[simp] theorem State.addBits_fatal (s : State) (n : Nat) : (s.addBits n).fatal = s.fatal := rfl
@[simp] theorem State.addBits_err (s : State) (n : Nat) : (s.addBits n).err = s.err := rfl
@[simp] theorem State.addBits_errSeen (s : State) (n : Nat) :
    (s.addBits n).errSeen = s.errSeen := rfl
@[simp] theorem State.addBits_busy (s : State) (n : Nat) : (s.addBits n).busy = s.busy := rfl
@[simp] theorem State.addBits_pending (s : State) (n : Nat) :
    (s.addBits n).pending = s.pending := rfl
@[simp] theorem State.addBits_latency (s : State) (n : Nat) :
    (s.addBits n).latency = s.latency := rfl
@[simp] theorem State.addBits_inputs (s : State) (n : Nat) : (s.addBits n).inputs = s.inputs := rfl
@[simp] theorem State.addBits_response (s : State) (n : Nat) :
    (s.addBits n).response = s.response := rfl
@[simp] theorem State.addBits_draws (s : State) (n : Nat) : (s.addBits n).draws = s.draws := rfl

@[simp] theorem State.push_opa (s : State) (v : Word) : (s.push v).opa = s.opa := rfl
@[simp] theorem State.push_opb (s : State) (v : Word) : (s.push v).opb = s.opb := rfl
@[simp] theorem State.push_res (s : State) (v : Word) : (s.push v).res = s.res := rfl
@[simp] theorem State.push_buf (s : State) (v : Word) : (s.push v).buf = s.buf.push v := rfl
@[simp] theorem State.push_fill (s : State) (v : Word) :
    (s.push v).fill = Fin.ofNat 625 (min bufWords (s.fill.val + 1)) := rfl
@[simp] theorem State.push_cursor (s : State) (v : Word) : (s.push v).cursor = s.cursor := rfl
@[simp] theorem State.push_ledger (s : State) (v : Word) : (s.push v).ledger = s.ledger := rfl
@[simp] theorem State.push_mode (s : State) (v : Word) : (s.push v).mode = s.mode := rfl
@[simp] theorem State.push_ready (s : State) (v : Word) : (s.push v).ready = s.ready := rfl
@[simp] theorem State.push_fatal (s : State) (v : Word) : (s.push v).fatal = s.fatal := rfl
@[simp] theorem State.push_err (s : State) (v : Word) : (s.push v).err = s.err := rfl
@[simp] theorem State.push_errSeen (s : State) (v : Word) : (s.push v).errSeen = s.errSeen := rfl
@[simp] theorem State.push_busy (s : State) (v : Word) : (s.push v).busy = s.busy := rfl
@[simp] theorem State.push_pending (s : State) (v : Word) : (s.push v).pending = s.pending := rfl
@[simp] theorem State.push_latency (s : State) (v : Word) : (s.push v).latency = s.latency := rfl
@[simp] theorem State.push_inputs (s : State) (v : Word) : (s.push v).inputs = s.inputs := rfl
@[simp] theorem State.push_response (s : State) (v : Word) : (s.push v).response = s.response := rfl
@[simp] theorem State.push_draws (s : State) (v : Word) : (s.push v).draws = s.draws := rfl

@[simp] theorem State.emptied_opa (s : State) : s.emptied.opa = s.opa := rfl
@[simp] theorem State.emptied_opb (s : State) : s.emptied.opb = s.opb := rfl
@[simp] theorem State.emptied_res (s : State) : s.emptied.res = s.res := rfl
@[simp] theorem State.emptied_buf (s : State) : s.emptied.buf = Buf.zero := rfl
@[simp] theorem State.emptied_fill (s : State) : s.emptied.fill = 0 := rfl
@[simp] theorem State.emptied_cursor (s : State) : s.emptied.cursor = 0 := rfl
@[simp] theorem State.emptied_ledger (s : State) : s.emptied.ledger = 0 := rfl
@[simp] theorem State.emptied_mode (s : State) : s.emptied.mode = .direct := rfl
@[simp] theorem State.emptied_ready (s : State) : s.emptied.ready = false := rfl
@[simp] theorem State.emptied_fatal (s : State) : s.emptied.fatal = s.fatal := rfl
@[simp] theorem State.emptied_err (s : State) : s.emptied.err = s.err := rfl
@[simp] theorem State.emptied_errSeen (s : State) : s.emptied.errSeen = s.errSeen := rfl
@[simp] theorem State.emptied_busy (s : State) : s.emptied.busy = s.busy := rfl
@[simp] theorem State.emptied_pending (s : State) : s.emptied.pending = s.pending := rfl
@[simp] theorem State.emptied_latency (s : State) : s.emptied.latency = s.latency := rfl
@[simp] theorem State.emptied_inputs (s : State) : s.emptied.inputs = s.inputs := rfl
@[simp] theorem State.emptied_response (s : State) : s.emptied.response = s.response := rfl
@[simp] theorem State.emptied_draws (s : State) : s.emptied.draws = s.draws := rfl

@[simp] theorem State.complete_opa (s : State) (c : ResultCode) : (s.complete c).opa = s.opa := rfl
@[simp] theorem State.complete_opb (s : State) (c : ResultCode) : (s.complete c).opb = s.opb := rfl
@[simp] theorem State.complete_res (s : State) (c : ResultCode) : (s.complete c).res = s.res := rfl
@[simp] theorem State.complete_buf (s : State) (c : ResultCode) : (s.complete c).buf = s.buf := rfl
@[simp] theorem State.complete_fill (s : State) (c : ResultCode) :
    (s.complete c).fill = s.fill := rfl
@[simp] theorem State.complete_cursor (s : State) (c : ResultCode) :
    (s.complete c).cursor = s.cursor := rfl
@[simp] theorem State.complete_ledger (s : State) (c : ResultCode) :
    (s.complete c).ledger = s.ledger := rfl
@[simp] theorem State.complete_mode (s : State) (c : ResultCode) :
    (s.complete c).mode = s.mode := rfl
@[simp] theorem State.complete_ready (s : State) (c : ResultCode) :
    (s.complete c).ready = s.ready := rfl
@[simp] theorem State.complete_fatal (s : State) (c : ResultCode) :
    (s.complete c).fatal = (s.fatal || c == .invariantViolation) := rfl
@[simp] theorem State.complete_err (s : State) (c : ResultCode) : (s.complete c).err = c.code := rfl
@[simp] theorem State.complete_errSeen (s : State) (c : ResultCode) :
    (s.complete c).errSeen = (s.errSeen || c != .ok) := rfl
@[simp] theorem State.complete_busy (s : State) (c : ResultCode) :
    (s.complete c).busy = false := rfl
@[simp] theorem State.complete_pending (s : State) (c : ResultCode) :
    (s.complete c).pending = 0 := rfl
@[simp] theorem State.complete_latency (s : State) (c : ResultCode) :
    (s.complete c).latency = 0 := rfl
@[simp] theorem State.complete_inputs (s : State) (c : ResultCode) :
    (s.complete c).inputs = s.inputs := rfl
@[simp] theorem State.complete_response (s : State) (c : ResultCode) :
    (s.complete c).response = s.response := rfl
@[simp] theorem State.complete_draws (s : State) (c : ResultCode) :
    (s.complete c).draws = s.draws := rfl

@[simp] theorem State.regenerate_opa (s : State) : s.regenerate.opa = s.opa := rfl
@[simp] theorem State.regenerate_opb (s : State) : s.regenerate.opb = s.opb := rfl
@[simp] theorem State.regenerate_res (s : State) : s.regenerate.res = s.res := rfl
@[simp] theorem State.regenerate_buf (s : State) : s.regenerate.buf = twist s.buf := rfl
@[simp] theorem State.regenerate_fill (s : State) : s.regenerate.fill = s.fill := rfl
@[simp] theorem State.regenerate_cursor (s : State) : s.regenerate.cursor = 0 := rfl
@[simp] theorem State.regenerate_ledger (s : State) : s.regenerate.ledger = s.ledger := rfl
@[simp] theorem State.regenerate_mode (s : State) : s.regenerate.mode = s.mode := rfl
@[simp] theorem State.regenerate_ready (s : State) : s.regenerate.ready = s.ready := rfl
@[simp] theorem State.regenerate_fatal (s : State) : s.regenerate.fatal = s.fatal := rfl
@[simp] theorem State.regenerate_err (s : State) : s.regenerate.err = s.err := rfl
@[simp] theorem State.regenerate_errSeen (s : State) : s.regenerate.errSeen = s.errSeen := rfl
@[simp] theorem State.regenerate_busy (s : State) : s.regenerate.busy = s.busy := rfl
@[simp] theorem State.regenerate_pending (s : State) : s.regenerate.pending = s.pending := rfl
@[simp] theorem State.regenerate_latency (s : State) : s.regenerate.latency = s.latency := rfl
@[simp] theorem State.regenerate_inputs (s : State) : s.regenerate.inputs = s.inputs := rfl
@[simp] theorem State.regenerate_response (s : State) : s.regenerate.response = s.response := rfl
@[simp] theorem State.regenerate_draws (s : State) : s.regenerate.draws = s.draws := rfl

@[simp] theorem State.advance_opa (s : State) : s.advance.opa = s.opa := rfl
@[simp] theorem State.advance_opb (s : State) : s.advance.opb = s.opb := rfl
@[simp] theorem State.advance_res (s : State) : s.advance.res = s.res := rfl
@[simp] theorem State.advance_buf (s : State) : s.advance.buf = s.buf := rfl
@[simp] theorem State.advance_fill (s : State) : s.advance.fill = s.fill := rfl
@[simp] theorem State.advance_cursor (s : State) :
    s.advance.cursor = Fin.ofNat 625 (s.cursor.val + 1) := rfl
@[simp] theorem State.advance_ledger (s : State) : s.advance.ledger = s.ledger := rfl
@[simp] theorem State.advance_mode (s : State) : s.advance.mode = s.mode := rfl
@[simp] theorem State.advance_ready (s : State) : s.advance.ready = s.ready := rfl
@[simp] theorem State.advance_fatal (s : State) : s.advance.fatal = s.fatal := rfl
@[simp] theorem State.advance_err (s : State) : s.advance.err = s.err := rfl
@[simp] theorem State.advance_errSeen (s : State) : s.advance.errSeen = s.errSeen := rfl
@[simp] theorem State.advance_busy (s : State) : s.advance.busy = s.busy := rfl
@[simp] theorem State.advance_pending (s : State) : s.advance.pending = s.pending := rfl
@[simp] theorem State.advance_latency (s : State) : s.advance.latency = s.latency := rfl
@[simp] theorem State.advance_inputs (s : State) : s.advance.inputs = s.inputs := rfl
@[simp] theorem State.advance_response (s : State) : s.advance.response = s.response := rfl
@[simp] theorem State.advance_draws (s : State) : s.advance.draws = s.draws := rfl

@[simp] theorem State.respond_opa (s : State) (r : Response) : (s.respond r).opa = s.opa := rfl
@[simp] theorem State.respond_opb (s : State) (r : Response) : (s.respond r).opb = s.opb := rfl
@[simp] theorem State.respond_res (s : State) (r : Response) : (s.respond r).res = s.res := rfl
@[simp] theorem State.respond_buf (s : State) (r : Response) : (s.respond r).buf = s.buf := rfl
@[simp] theorem State.respond_fill (s : State) (r : Response) : (s.respond r).fill = s.fill := rfl
@[simp] theorem State.respond_cursor (s : State) (r : Response) :
    (s.respond r).cursor = s.cursor := rfl
@[simp] theorem State.respond_ledger (s : State) (r : Response) :
    (s.respond r).ledger = s.ledger := rfl
@[simp] theorem State.respond_mode (s : State) (r : Response) : (s.respond r).mode = s.mode := rfl
@[simp] theorem State.respond_ready (s : State) (r : Response) :
    (s.respond r).ready = s.ready := rfl
@[simp] theorem State.respond_fatal (s : State) (r : Response) :
    (s.respond r).fatal = s.fatal := rfl
@[simp] theorem State.respond_err (s : State) (r : Response) : (s.respond r).err = s.err := rfl
@[simp] theorem State.respond_errSeen (s : State) (r : Response) :
    (s.respond r).errSeen = s.errSeen := rfl
@[simp] theorem State.respond_busy (s : State) (r : Response) : (s.respond r).busy = s.busy := rfl
@[simp] theorem State.respond_pending (s : State) (r : Response) :
    (s.respond r).pending = s.pending := rfl
@[simp] theorem State.respond_latency (s : State) (r : Response) :
    (s.respond r).latency = s.latency := rfl
@[simp] theorem State.respond_inputs (s : State) (r : Response) :
    (s.respond r).inputs = s.inputs := rfl
@[simp] theorem State.respond_response (s : State) (r : Response) :
    (s.respond r).response = some r := rfl
@[simp] theorem State.respond_draws (s : State) (r : Response) :
    (s.respond r).draws = s.draws := rfl

@[simp] theorem State.draw_opa (s : State) : s.draw.opa = s.opa := rfl
@[simp] theorem State.draw_opb (s : State) : s.draw.opb = s.opb := rfl
@[simp] theorem State.draw_res (s : State) : s.draw.res = s.res := rfl
@[simp] theorem State.draw_buf (s : State) : s.draw.buf = s.buf := rfl
@[simp] theorem State.draw_fill (s : State) : s.draw.fill = s.fill := rfl
@[simp] theorem State.draw_cursor (s : State) : s.draw.cursor = s.cursor := rfl
@[simp] theorem State.draw_ledger (s : State) : s.draw.ledger = s.ledger := rfl
@[simp] theorem State.draw_mode (s : State) : s.draw.mode = s.mode := rfl
@[simp] theorem State.draw_ready (s : State) : s.draw.ready = s.ready := rfl
@[simp] theorem State.draw_fatal (s : State) : s.draw.fatal = s.fatal := rfl
@[simp] theorem State.draw_err (s : State) : s.draw.err = s.err := rfl
@[simp] theorem State.draw_errSeen (s : State) : s.draw.errSeen = s.errSeen := rfl
@[simp] theorem State.draw_busy (s : State) : s.draw.busy = s.busy := rfl
@[simp] theorem State.draw_pending (s : State) : s.draw.pending = s.pending := rfl
@[simp] theorem State.draw_latency (s : State) : s.draw.latency = s.latency := rfl
@[simp] theorem State.draw_inputs (s : State) : s.draw.inputs = s.inputs := rfl
@[simp] theorem State.draw_response (s : State) : s.draw.response = s.response := rfl
@[simp] theorem State.draw_draws (s : State) : s.draw.draws = s.draws + 1 := rfl

@[simp] theorem State.setOpa_opa (s : State) (v : Word) : (s.setOpa v).opa = v := rfl
@[simp] theorem State.setOpa_opb (s : State) (v : Word) : (s.setOpa v).opb = s.opb := rfl
@[simp] theorem State.setOpa_res (s : State) (v : Word) : (s.setOpa v).res = s.res := rfl
@[simp] theorem State.setOpa_buf (s : State) (v : Word) : (s.setOpa v).buf = s.buf := rfl
@[simp] theorem State.setOpa_fill (s : State) (v : Word) : (s.setOpa v).fill = s.fill := rfl
@[simp] theorem State.setOpa_cursor (s : State) (v : Word) : (s.setOpa v).cursor = s.cursor := rfl
@[simp] theorem State.setOpa_ledger (s : State) (v : Word) : (s.setOpa v).ledger = s.ledger := rfl
@[simp] theorem State.setOpa_mode (s : State) (v : Word) : (s.setOpa v).mode = s.mode := rfl
@[simp] theorem State.setOpa_ready (s : State) (v : Word) : (s.setOpa v).ready = s.ready := rfl
@[simp] theorem State.setOpa_fatal (s : State) (v : Word) : (s.setOpa v).fatal = s.fatal := rfl
@[simp] theorem State.setOpa_err (s : State) (v : Word) : (s.setOpa v).err = s.err := rfl
@[simp] theorem State.setOpa_errSeen (s : State) (v : Word) :
    (s.setOpa v).errSeen = s.errSeen := rfl
@[simp] theorem State.setOpa_busy (s : State) (v : Word) : (s.setOpa v).busy = s.busy := rfl
@[simp] theorem State.setOpa_pending (s : State) (v : Word) :
    (s.setOpa v).pending = s.pending := rfl
@[simp] theorem State.setOpa_latency (s : State) (v : Word) :
    (s.setOpa v).latency = s.latency := rfl
@[simp] theorem State.setOpa_inputs (s : State) (v : Word) : (s.setOpa v).inputs = s.inputs := rfl
@[simp] theorem State.setOpa_response (s : State) (v : Word) :
    (s.setOpa v).response = s.response := rfl
@[simp] theorem State.setOpa_draws (s : State) (v : Word) : (s.setOpa v).draws = s.draws := rfl

@[simp] theorem State.setOpb_opa (s : State) (v : Word) : (s.setOpb v).opa = s.opa := rfl
@[simp] theorem State.setOpb_opb (s : State) (v : Word) : (s.setOpb v).opb = v := rfl
@[simp] theorem State.setOpb_res (s : State) (v : Word) : (s.setOpb v).res = s.res := rfl
@[simp] theorem State.setOpb_buf (s : State) (v : Word) : (s.setOpb v).buf = s.buf := rfl
@[simp] theorem State.setOpb_fill (s : State) (v : Word) : (s.setOpb v).fill = s.fill := rfl
@[simp] theorem State.setOpb_cursor (s : State) (v : Word) : (s.setOpb v).cursor = s.cursor := rfl
@[simp] theorem State.setOpb_ledger (s : State) (v : Word) : (s.setOpb v).ledger = s.ledger := rfl
@[simp] theorem State.setOpb_mode (s : State) (v : Word) : (s.setOpb v).mode = s.mode := rfl
@[simp] theorem State.setOpb_ready (s : State) (v : Word) : (s.setOpb v).ready = s.ready := rfl
@[simp] theorem State.setOpb_fatal (s : State) (v : Word) : (s.setOpb v).fatal = s.fatal := rfl
@[simp] theorem State.setOpb_err (s : State) (v : Word) : (s.setOpb v).err = s.err := rfl
@[simp] theorem State.setOpb_errSeen (s : State) (v : Word) :
    (s.setOpb v).errSeen = s.errSeen := rfl
@[simp] theorem State.setOpb_busy (s : State) (v : Word) : (s.setOpb v).busy = s.busy := rfl
@[simp] theorem State.setOpb_pending (s : State) (v : Word) :
    (s.setOpb v).pending = s.pending := rfl
@[simp] theorem State.setOpb_latency (s : State) (v : Word) :
    (s.setOpb v).latency = s.latency := rfl
@[simp] theorem State.setOpb_inputs (s : State) (v : Word) : (s.setOpb v).inputs = s.inputs := rfl
@[simp] theorem State.setOpb_response (s : State) (v : Word) :
    (s.setOpb v).response = s.response := rfl
@[simp] theorem State.setOpb_draws (s : State) (v : Word) : (s.setOpb v).draws = s.draws := rfl

@[simp] theorem State.issue_opa (s : State) (w : Word) : (s.issue w).opa = s.opa := rfl
@[simp] theorem State.issue_opb (s : State) (w : Word) : (s.issue w).opb = s.opb := rfl
@[simp] theorem State.issue_res (s : State) (w : Word) : (s.issue w).res = s.res := rfl
@[simp] theorem State.issue_buf (s : State) (w : Word) : (s.issue w).buf = s.buf := rfl
@[simp] theorem State.issue_fill (s : State) (w : Word) : (s.issue w).fill = s.fill := rfl
@[simp] theorem State.issue_cursor (s : State) (w : Word) : (s.issue w).cursor = s.cursor := rfl
@[simp] theorem State.issue_ledger (s : State) (w : Word) : (s.issue w).ledger = s.ledger := rfl
@[simp] theorem State.issue_mode (s : State) (w : Word) : (s.issue w).mode = s.mode := rfl
@[simp] theorem State.issue_ready (s : State) (w : Word) : (s.issue w).ready = s.ready := rfl
@[simp] theorem State.issue_fatal (s : State) (w : Word) : (s.issue w).fatal = s.fatal := rfl
@[simp] theorem State.issue_err (s : State) (w : Word) : (s.issue w).err = s.err := rfl
@[simp] theorem State.issue_errSeen (s : State) (w : Word) : (s.issue w).errSeen = s.errSeen := rfl
@[simp] theorem State.issue_busy (s : State) (w : Word) : (s.issue w).busy = true := rfl
@[simp] theorem State.issue_pending (s : State) (w : Word) : (s.issue w).pending = w := rfl
@[simp] theorem State.issue_latency (s : State) (w : Word) :
    (s.issue w).latency = Config.freeLatency s.draws := rfl
@[simp] theorem State.issue_inputs (s : State) (w : Word) : (s.issue w).inputs = s.inputs := rfl
@[simp] theorem State.issue_response (s : State) (w : Word) :
    (s.issue w).response = s.response := rfl
@[simp] theorem State.issue_draws (s : State) (w : Word) : (s.issue w).draws = s.draws + 1 := rfl

@[simp] theorem State.hostMoved_opa (s : State) (l : List HostEvent) :
    (s.hostMoved l).opa = s.opa := rfl
@[simp] theorem State.hostMoved_opb (s : State) (l : List HostEvent) :
    (s.hostMoved l).opb = s.opb := rfl
@[simp] theorem State.hostMoved_res (s : State) (l : List HostEvent) :
    (s.hostMoved l).res = s.res := rfl
@[simp] theorem State.hostMoved_buf (s : State) (l : List HostEvent) :
    (s.hostMoved l).buf = s.buf := rfl
@[simp] theorem State.hostMoved_fill (s : State) (l : List HostEvent) :
    (s.hostMoved l).fill = s.fill := rfl
@[simp] theorem State.hostMoved_cursor (s : State) (l : List HostEvent) :
    (s.hostMoved l).cursor = s.cursor := rfl
@[simp] theorem State.hostMoved_ledger (s : State) (l : List HostEvent) :
    (s.hostMoved l).ledger = s.ledger := rfl
@[simp] theorem State.hostMoved_mode (s : State) (l : List HostEvent) :
    (s.hostMoved l).mode = s.mode := rfl
@[simp] theorem State.hostMoved_ready (s : State) (l : List HostEvent) :
    (s.hostMoved l).ready = s.ready := rfl
@[simp] theorem State.hostMoved_fatal (s : State) (l : List HostEvent) :
    (s.hostMoved l).fatal = s.fatal := rfl
@[simp] theorem State.hostMoved_err (s : State) (l : List HostEvent) :
    (s.hostMoved l).err = s.err := rfl
@[simp] theorem State.hostMoved_errSeen (s : State) (l : List HostEvent) :
    (s.hostMoved l).errSeen = s.errSeen := rfl
@[simp] theorem State.hostMoved_busy (s : State) (l : List HostEvent) :
    (s.hostMoved l).busy = s.busy := rfl
@[simp] theorem State.hostMoved_pending (s : State) (l : List HostEvent) :
    (s.hostMoved l).pending = s.pending := rfl
@[simp] theorem State.hostMoved_latency (s : State) (l : List HostEvent) :
    (s.hostMoved l).latency = s.latency - 1 := rfl
@[simp] theorem State.hostMoved_inputs (s : State) (l : List HostEvent) :
    (s.hostMoved l).inputs = l := rfl
@[simp] theorem State.hostMoved_response (s : State) (l : List HostEvent) :
    (s.hostMoved l).response = s.response := rfl
@[simp] theorem State.hostMoved_draws (s : State) (l : List HostEvent) :
    (s.hostMoved l).draws = s.draws := rfl

end Sys2Proof.Machine
end

