-- ==== Sys2Proof/Laws/Ops.lean ====
section
/-! SUPPORT. What each shared operation does, said once: BUF by its words, the saturating sum, and the
execute procedure around every command. -/

namespace Sys2Proof.Machine

/-! ### The constants as numerals (R6) -/

@[simp] theorem bufWords_eq : bufWords = 624 := rfl
@[simp] theorem middle_eq : middle = 397 := rfl
@[simp] theorem threshold_eq : threshold = 19968 := rfl
@[simp] theorem ledgerMax_eq : ledgerMax = 4294967295 := rfl

/-! ### BUF by its words -/

/-- A word is the word at the index modulo 624. -/
theorem Buf.word_mod (b : Buf) (k : Nat) : b.word (k % bufWords) = b.word k := by
  simp [Buf.word]

/-- Below 624 the modulus does nothing. -/
theorem Buf.word_eq_getElem (b : Buf) {k : Nat} (h : k < 624) : b.word k = b[k] := by
  simp [Buf.word, Nat.mod_eq_of_lt h]

/-- Two buffers with the same 624 words are the same. -/
theorem Buf.ext_word {a b : Buf} (h : ∀ k, k < 624 → a.word k = b.word k) : a = b := by
  apply Vector.ext
  intro k hk
  rw [← Buf.word_eq_getElem a hk, ← Buf.word_eq_getElem b hk]
  exact h k hk

/-- What one write does to every word. -/
theorem Buf.word_put (b : Buf) (k : Nat) (v : Word) (j : Nat) :
    (b.put k v).word j = if k % 624 = j % 624 then v else b.word j := by
  simp [Buf.word, Buf.put, Vector.getElem_set]

/-- The word written. -/
@[simp] theorem Buf.word_put_same (b : Buf) (k : Nat) (v : Word) : (b.put k v).word k = v := by
  simp [Buf.word_put]

/-- Every other word. -/
theorem Buf.word_put_other (b : Buf) {k j : Nat} (v : Word) (h : k % 624 ≠ j % 624) :
    (b.put k v).word j = b.word j := by
  simp [Buf.word_put, h]

/-- The empty buffer holds zeros. -/
@[simp] theorem Buf.word_zero (k : Nat) : Buf.zero.word k = 0 := by
  simp [Buf.word, Buf.zero]

/-- A buffer given by a function of the index. -/
theorem Buf.word_ofFn (f : Fin 624 → Word) {k : Nat} (h : k < 624) :
    Buf.word (Vector.ofFn f) k = f ⟨k, h⟩ := by
  simp [Buf.word, Nat.mod_eq_of_lt h]

/-- What a push does to every word: one place down, the new word last (R86). -/
theorem Buf.word_push (b : Buf) (v : Word) {k : Nat} (h : k < 624) :
    (b.push v).word k = if k = 623 then v else b.word (k + 1) := by
  rw [Buf.word_eq_getElem _ h]
  simp only [Buf.push, Vector.getElem_mk, List.getElem_toArray]
  by_cases hk : k = 623
  · subst hk
    simp
  · have h1 : k + 1 < 624 := by omega
    rw [List.getElem_append_left (by simp; omega)]
    simp [Buf.word_eq_getElem _ h1, hk]

/-! ### LEDGER -/

/-- The saturating sum as a number (R86). -/
@[simp] theorem sat32_toNat (a : Nat) : (sat32 a).toNat = min a 4294967295 := by
  simp only [sat32, ledgerMax, BitVec.toNat_ofNat]
  apply Nat.mod_eq_of_lt
  omega

/-! ### The execute procedure (R108) -/

/-- Under the fatal lock nothing but the completion happens (R109). -/
theorem runCommand_fatal {s : State} (h : s.fatal = true)
    (effect : State → Except ResultCode State) :
    runCommand s effect = s.complete .invariantViolation := by
  simp [runCommand, h]

/-- A command that succeeds applies its effect, then completes (R108). -/
theorem runCommand_ok {s s' : State} {effect : State → Except ResultCode State}
    (h : s.fatal = false) (he : effect s = .ok s') : runCommand s effect = s'.complete .ok := by
  simp [runCommand, h, he]

/-- A command that raises a code completes with it and has no other effect (R108). -/
theorem runCommand_error {s : State} {c : ResultCode} {effect : State → Except ResultCode State}
    (h : s.fatal = false) (he : effect s = .error c) : runCommand s effect = s.complete c := by
  simp [runCommand, h, he]

/-- Everything the execute procedure can do (R108): the lock, the raised code, or the effect. -/
theorem runCommand_cases (s : State) (effect : State → Except ResultCode State) :
    (s.fatal = true ∧ runCommand s effect = s.complete .invariantViolation) ∨
      (s.fatal = false ∧ ∃ c, effect s = .error c ∧ runCommand s effect = s.complete c) ∨
      (s.fatal = false ∧ ∃ s', effect s = .ok s' ∧ runCommand s effect = s'.complete .ok) := by
  cases hf : s.fatal with
  | true => exact .inl ⟨rfl, runCommand_fatal hf effect⟩
  | false =>
    cases he : effect s with
    | error c => exact .inr (.inl ⟨rfl, c, rfl, runCommand_error hf he⟩)
    | ok s' => exact .inr (.inr ⟨rfl, s', rfl, runCommand_ok hf he⟩)

/-- Only what the effect does to this state matters (R108). -/
theorem runCommand_congr {s : State} {effect effect' : State → Except ResultCode State}
    (h : effect s = effect' s) : runCommand s effect = runCommand s effect' := by
  simp [runCommand, h]

/-- A command that cannot fail writes RES and completes (R66). -/
theorem resultCommand_eq {s : State} (h : s.fatal = false) (w : Word) :
    resultCommand s w = (s.setRes w).complete .ok :=
  runCommand_ok h rfl

/-- Each command's own effect, without the execute procedure around it. -/
def effectOf (i : Instr) (s : State) : Except ResultCode State :=
  match i with
  | .and => .ok (s.setRes (s.opa &&& s.opb))
  | .or => .ok (s.setRes (s.opa ||| s.opb))
  | .xor => .ok (s.setRes (s.opa ^^^ s.opb))
  | .shl sh => .ok (s.setRes (s.opa <<< sh))
  | .shr sh => .ok (s.setRes (s.opa >>> sh))
  | .xshr sh => .ok (s.setRes (xshr s.opa sh s.opb))
  | .xshl sh => .ok (s.setRes (xshl s.opa sh s.opb))
  | .ixshr sh => solveEffect sh .right s
  | .ixshl sh => solveEffect sh .left s
  | .temper => .ok (s.setRes (harden s.opa))
  | .untemper => .ok (s.setRes (unharden s.opa))
  | .submit => submitEffect s
  | .submitp width => submitpEffect width s
  | .check fm => checkEffect fm s
  | .clear => .ok s.emptied
  | .twist => twistEffect s
  | .untwist => untwistEffect s
  | .predict => predictEffect s
  | .offset => offsetEffect s

/-- Every command is its own effect inside the one execute procedure (R108). -/
theorem exec_eq_runCommand (i : Instr) (s : State) :
    exec i s = .next (runCommand s (effectOf i)) := by
  cases i <;> exact congrArg Host.Outcome.next (runCommand_congr rfl)

end Sys2Proof.Machine
end

