-- ==== Sys2Proof/Laws/Bus.lean ====
section
/-! SUPPORT. What a bus access, a host's turn and the reset input can do, said once. -/

namespace Sys2Proof.Machine

/-- A read changes the response and the count of draws, and nothing else (R44 (b)). -/
theorem readRegister_frame (s : State) (r : Register) :
    readRegister s r =
      { s with response := (readRegister s r).response, draws := (readRegister s r).draws } := by
  unfold readRegister
  split <;> rfl

/-- A write with BUSY = 1 is refused (R37, R38). -/
theorem writeRegister_busy {s : State} (h : s.busy = true) (r : Register) (v : Word) :
    writeRegister s r v = s.respond .busErr := by
  simp [writeRegister, h]

/-- Everything a write can do (R36 to R39): issue a command, store an operand, or be refused. -/
theorem writeRegister_cases (s : State) (r : Register) (v : Word) :
    (s.busy = false ∧ r = .cmd ∧ writeRegister s r v = (s.issue v).respond .ok) ∨
      (s.busy = false ∧ r = .opa ∧ writeRegister s r v = (s.setOpa v).respond .ok) ∨
      (s.busy = false ∧ r = .opb ∧ writeRegister s r v = (s.setOpb v).respond .ok) ∨
      writeRegister s r v = s.respond .busErr := by
  cases hb : s.busy with
  | true => exact .inr (.inr (.inr (writeRegister_busy hb r v)))
  | false => cases r <;> simp [writeRegister, hb]

/-- Everything a bus access can do: a read, a write, or a refusal (R35, R40, R43). -/
theorem busAccess_cases (s : State) (a : Access) :
    (∃ r, busAccess s a = readRegister s r) ∨ (∃ r v, busAccess s a = writeRegister s r v) ∨
      busAccess s a = s.respond .busErr := by
  cases a with
  | read offset bits =>
    cases h : target offset bits with
    | none => exact .inr (.inr (by simp [busAccess, h]))
    | some r => exact .inl ⟨r, by simp [busAccess, h]⟩
  | write offset bits value =>
    cases h : target offset bits with
    | none => exact .inr (.inr (by simp [busAccess, h]))
    | some r => exact .inr (.inl ⟨r, value, by simp [busAccess, h]⟩)

/-- No bus access writes the controller's state (R36 to R43). -/
theorem busAccess_sameController (s : State) (a : Access) : SameController s (busAccess s a) := by
  rcases busAccess_cases s a with ⟨r, h⟩ | ⟨r, v, h⟩ | h
  · rw [h, readRegister_frame]
    exact ⟨rfl, rfl, rfl, rfl, rfl, rfl, rfl, rfl, rfl, rfl⟩
  · rcases writeRegister_cases s r v with ⟨-, -, hw⟩ | ⟨-, -, hw⟩ | ⟨-, -, hw⟩ | hw <;>
      rw [h, hw] <;> exact ⟨rfl, rfl, rfl, rfl, rfl, rfl, rfl, rfl, rfl, rfl⟩
  · rw [h]
    exact ⟨rfl, rfl, rfl, rfl, rfl, rfl, rfl, rfl, rfl, rfl⟩

/-- Everything a host's turn can do (R134): nothing, one access, one read of the polling loop, or the
reset input. -/
theorem hostTurn_cases (s : State) :
    (s.inputs = [] ∧ hostTurn s = s) ∨
      (∃ a rest, s.inputs = .access a :: rest ∧ hostTurn s = busAccess (s.hostMoved rest) a) ∨
      (∃ rest, s.inputs = .poll :: rest ∧
        hostTurn s = busAccess (s.hostMoved (if s.busy then .poll :: rest else rest)) pollAccess) ∨
      (∃ i rest, s.inputs = .reset i :: rest ∧ hostTurn s = resetInput s rest i) := by
  unfold hostTurn
  split
  · exact .inl ⟨by assumption, rfl⟩
  · exact .inr (.inl ⟨_, _, by assumption, rfl⟩)
  · exact .inr (.inr (.inl ⟨_, by assumption, rfl⟩))
  · exact .inr (.inr (.inr ⟨_, _, by assumption, rfl⟩))

/-- Reset leaves the reset values; only the host's events, the response and the count of draws are the
model's own and go on (R123, R124). -/
theorem resetInput_frame (s : State) (rest : List HostEvent) (i : Option Access) :
    resetInput s rest i =
      { State.reset with
        inputs := rest
        response := (resetInput s rest i).response
        draws := (resetInput s rest i).draws } := by
  cases i <;> rfl

end Sys2Proof.Machine
end

