-- ==== Sys2Proof/Laws/PerInstr.lean ====
section
/-! SUPPORT. One fact per command, about the command as syntax: its word carries its opcode in bits
[31:24], whatever its fields (R53, R59). -/

namespace Sys2Proof.Laws.OpcodeField

/-- The encoded word's OPC field is the command's opcode (R53). -/
def Statement (i : Instr) : Prop := opcField (encode i) = i.opcode

/-- The opcode field of a word whose upper byte is placed, whatever lies below it. -/
theorem opcField_placed (opc : BitVec 8) {low : Word} (h : ∀ j, 24 ≤ j → low.getLsbD j = false) :
    opcField (placed opc 24 ||| low) = opc := by
  apply BitVec.eq_of_getLsbD_eq
  intro j hj
  have h1 : 24 + j < 32 := by omega
  have h3 := h (24 + j) (by omega)
  rw [BitVec.getLsbD_eq_getElem h1] at h3
  simp [opcField, placed, hj, h1, h3]

theorem opcField_formatN (opc : BitVec 8) : opcField (formatN opc) = opc := by
  have h := opcField_placed opc (low := 0) (by simp)
  simpa [formatN] using h

theorem opcField_formatS (opc : BitVec 8) (sh : Nat) : opcField (formatS opc sh) = opc :=
  opcField_placed opc fun j hj => by
    have : (BitVec.ofNat 5 sh).getLsbD (j - 16) = false := BitVec.getLsbD_of_ge _ _ (by omega)
    simp [placed, this]

theorem opcField_formatW (opc : BitVec 8) (width : Nat) : opcField (formatW opc width) = opc :=
  opcField_placed opc fun j hj => by
    have : (BitVec.ofNat 16 width).getLsbD j = false := BitVec.getLsbD_of_ge _ _ (by omega)
    simp [placed, this]

theorem opcField_formatF (opc : BitVec 8) (fm : Bool) : opcField (formatF opc fm) = opc :=
  opcField_placed opc fun j hj => by
    have : (BitVec.ofBool fm).getLsbD j = false := BitVec.getLsbD_of_ge _ _ (by omega)
    simp [placed, this]

theorem and : Statement .and := opcField_formatN _
theorem or : Statement .or := opcField_formatN _
theorem xor : Statement .xor := opcField_formatN _
theorem shl (sh : Nat) : Statement (.shl sh) := opcField_formatS _ sh
theorem shr (sh : Nat) : Statement (.shr sh) := opcField_formatS _ sh
theorem xshr (sh : Nat) : Statement (.xshr sh) := opcField_formatS _ sh
theorem xshl (sh : Nat) : Statement (.xshl sh) := opcField_formatS _ sh
theorem ixshr (sh : Nat) : Statement (.ixshr sh) := opcField_formatS _ sh
theorem ixshl (sh : Nat) : Statement (.ixshl sh) := opcField_formatS _ sh
theorem temper : Statement .temper := opcField_formatN _
theorem untemper : Statement .untemper := opcField_formatN _
theorem submit : Statement .submit := opcField_formatN _
theorem submitp (width : Nat) : Statement (.submitp width) := opcField_formatW _ width
theorem check (fm : Bool) : Statement (.check fm) := opcField_formatF _ fm
theorem clear : Statement .clear := opcField_formatN _
theorem twist : Statement .twist := opcField_formatN _
theorem untwist : Statement .untwist := opcField_formatN _
theorem predict : Statement .predict := opcField_formatN _
theorem offset : Statement .offset := opcField_formatN _

end Sys2Proof.Laws.OpcodeField
end

