-- ==== Sys2Proof/Laws/Step.lean ====
section
/-! SUPPORT. Everything a step can do, said once (R134). -/

namespace Sys2Proof.Machine

/-- A step is the completion of a decoded command, the completion of an illegal word, or the host's
turn (R60, R108, R134). -/
theorem step_cases (s : State) :
    (sequencerTurn s = true ∧ ∃ i, decode s.pending = .ok i ∧ step s = exec i s) ∨
      (sequencerTurn s = true ∧ (∃ e, decode s.pending = .error e) ∧
        step s = .next (illegalCommand s)) ∨
      (sequencerTurn s = false ∧ step s = .next (hostTurn s)) := by
  cases ht : sequencerTurn s with
  | false => exact .inr (.inr ⟨rfl, by simp [step, ht]⟩)
  | true =>
    cases hd : decode s.pending with
    | ok i => exact .inl ⟨rfl, i, rfl, by simp [step, ht, fetch, hd]⟩
    | error e => exact .inr (.inl ⟨rfl, ⟨e, rfl⟩, by simp [step, ht, fetch, hd]⟩)

/-- The sequencer's turn comes only while a command is in flight (R134). -/
theorem busy_of_sequencerTurn {s : State} (h : sequencerTurn s = true) : s.busy = true := by
  simp only [sequencerTurn, Bool.and_eq_true] at h
  exact h.1

/-- A placed command is in the sequencer's turn (R37). -/
@[simp] theorem sequencerTurn_withFetchWord (s : State) (nbits w : Nat) :
    sequencerTurn (s.withFetchWord nbits w) = true := rfl

end Sys2Proof.Machine
end

