-- ==== Sys2Proof/Laws/Twist.lean ====
section
/-! SUPPORT. The twist engine and the predict step by their words: what one loop step writes, what a
loop leaves alone, and what a predict step can do. -/

namespace Sys2Proof.Machine

/-- A forward step writes only word k (R93). -/
theorem word_twistAt_other (b : Buf) {k j : Nat} (h : k % 624 ≠ j % 624) :
    (twistAt b k).word j = b.word j :=
  Buf.word_put_other _ _ h

/-- What a forward step writes (R93). -/
theorem word_twistAt_same (b : Buf) (k : Nat) :
    (twistAt b k).word k =
      b.word (k + 397) ^^^ mag (mix (b.word k) (b.word (k + 1))) :=
  Buf.word_put_same _ _ _

/-- The first n forward steps leave the words from n on alone (R93). -/
theorem word_twistSteps_high (b : Buf) {n j : Nat} (hn : n ≤ j) (hj : j < 624) :
    (twistSteps n b).word j = b.word j := by
  induction n with
  | zero => rfl
  | succ n ih =>
    rw [twistSteps, word_twistAt_other _ (by omega), ih (by omega)]

/-- A backward step writes only word i (R95). -/
theorem word_untwistAt_other (b : Buf) {i j : Nat} (h : i % 624 ≠ j % 624) :
    (untwistAt b i).word j = b.word j :=
  Buf.word_put_other _ _ h

/-- What a backward step writes (R95). -/
theorem word_untwistAt_same (b : Buf) (i : Nat) :
    (untwistAt b i).word i =
      mix (unmag (b.word i ^^^ b.word (i + 397))) (unmag (b.word (i + 623) ^^^ b.word (i + 396))) :=
  Buf.word_put_same _ _ _

/-- The backward loop from n - 1 down leaves the words from n on alone (R95). -/
theorem word_untwistSteps_high (b : Buf) {n j : Nat} (hn : n ≤ j) (hj : j < 624) :
    (untwistSteps n b).word j = b.word j := by
  induction n generalizing b with
  | zero => rfl
  | succ n ih =>
    rw [untwistSteps, ih _ (by omega), word_untwistAt_other _ (by omega)]

/-- The lazy twist happens exactly where all 624 words are consumed (R101). -/
theorem State.refreshed_cases (s : State) :
    (s.cursor.val = 624 ∧ s.refreshed = s.regenerate) ∨ (s.cursor.val < 624 ∧ s.refreshed = s) := by
  have := s.cursor.isLt
  by_cases h : s.cursor.val = 624
  · exact .inl ⟨h, by simp [State.refreshed, h]⟩
  · exact .inr ⟨by omega, by simp [State.refreshed, h]⟩

/-- After the lazy twist a word is left to consume (R101). -/
theorem State.refreshed_cursor_lt (s : State) : s.refreshed.cursor.val < 624 := by
  rcases s.refreshed_cases with ⟨-, h⟩ | ⟨hlt, h⟩
  · simp [h]
  · simpa [h] using hlt

/-- Predict steps change nothing but BUF and CURSOR (R101, R104). -/
theorem predictStep_frame (s : State) :
    predictStep s = { s with buf := (predictStep s).buf, cursor := (predictStep s).cursor } := by
  rcases s.refreshed_cases with ⟨-, h⟩ | ⟨-, h⟩ <;> simp [predictStep, h] <;> rfl

/-- A state that differs from s in BUF and CURSOR only becomes any other such state by an update of
the two. -/
theorem State.update_bufCursor {s t : State}
    (h : t = { s with buf := t.buf, cursor := t.cursor }) (b : Buf) (c : Fin 625) :
    ({ t with buf := b, cursor := c } : State) = { s with buf := b, cursor := c } := by
  rw [h]

/-- Any number of predict steps change nothing but BUF and CURSOR (R104). -/
theorem predictSteps_frame (n : Nat) (s : State) :
    predictSteps n s =
      { s with buf := (predictSteps n s).buf, cursor := (predictSteps n s).cursor } := by
  induction n generalizing s with
  | zero => rfl
  | succ n ih =>
    exact (ih (predictStep s)).trans (State.update_bufCursor (predictStep_frame s) _ _)

end Sys2Proof.Machine
end

