-- ==== Sys2Proof/Tests/Slice0.lean ====
section
/-! SUPPORT. Tests on fixed values, their expected results taken from spec/95_test_vectors.md and the
rules named, and one witness theorem for the hypotheses of each statement. -/

namespace Sys2Proof.Tests

open Sys2Proof Sys2Proof.Machine

/-! ### Well-formedness: each check refuses an ill-formed command (R58, R63) -/

theorem test_shift_fields_refuse_32 :
    ¬ (Instr.shl 32).WellFormed ∧ ¬ (Instr.shr 32).WellFormed ∧ ¬ (Instr.xshr 32).WellFormed ∧
      ¬ (Instr.xshl 32).WellFormed ∧ ¬ (Instr.ixshr 32).WellFormed ∧
      ¬ (Instr.ixshl 32).WellFormed := by decide

theorem test_width_field_refuses_65536 : ¬ (Instr.submitp 65536).WellFormed := by decide

theorem test_largest_fields_pass :
    (Instr.shl 31).WellFormed ∧ (Instr.submitp 65535).WellFormed ∧ (Instr.check true).WellFormed := by
  decide

/-! ### Decoding: words written out from the formats (R54 to R59; table of 95 section 2) -/

theorem test_decode_and : decode 0b00000001000000000000000000000000 = .ok .and := by decide
theorem test_decode_or : decode 0b00000010000000000000000000000000 = .ok .or := by decide
theorem test_decode_xor : decode 0b00000011000000000000000000000000 = .ok .xor := by decide
theorem test_decode_shl : decode 0b00000100000111110000000000000000 = .ok (.shl 31) := by decide
theorem test_decode_shr : decode 0b00000101000001000000000000000000 = .ok (.shr 4) := by decide
theorem test_decode_xshr : decode 0b00010000000100100000000000000000 = .ok (.xshr 18) := by decide
theorem test_decode_xshl : decode 0b00010001000001110000000000000000 = .ok (.xshl 7) := by decide
theorem test_decode_ixshr : decode 0b00010010000010110000000000000000 = .ok (.ixshr 11) := by decide
theorem test_decode_ixshl : decode 0b00010011000000000000000000000000 = .ok (.ixshl 0) := by decide
theorem test_decode_temper : decode 0b00010100000000000000000000000000 = .ok .temper := by decide
theorem test_decode_untemper : decode 0b00010101000000000000000000000000 = .ok .untemper := by decide
theorem test_decode_submit : decode 0b00100000000000000000000000000000 = .ok .submit := by decide
theorem test_decode_submitp :
    decode 0b00100001000000000000000000101000 = .ok (.submitp 40) := by decide
theorem test_decode_check : decode 0b00100010000000000000000000000001 = .ok (.check true) := by decide
theorem test_decode_clear : decode 0b00100011000000000000000000000000 = .ok .clear := by decide
theorem test_decode_twist : decode 0b00110000000000000000000000000000 = .ok .twist := by decide
theorem test_decode_untwist : decode 0b00110001000000000000000000000000 = .ok .untwist := by decide
theorem test_decode_predict : decode 0b01000000000000000000000000000000 = .ok .predict := by decide
theorem test_decode_offset : decode 0b01000001000000000000000000000000 = .ok .offset := by decide

/-- 95 section 2: the reserved-bit words, rejected by name (R61 (b)). -/
theorem test_decode_reserved_bits :
    ([0x01000001, 0x04200000, 0x04008000, 0x21010008, 0x22000002] : List Word).all (fun w =>
      decide (decode w = .error (.reservedBitSet (opcField w)))) = true := by decide +kernel

/-- 95 section 2, and the ends of the unassigned ranges (R61 (a)). -/
theorem test_decode_unassigned_opcodes :
    ([0x00000000, 0x06000000, 0x0F000000, 0x16000000, 0x1F000000, 0x24000000, 0x2F000000,
        0x32000000, 0x3F000000, 0x42000000, 0xFF000000] : List Word).all (fun w =>
      decide (decode w = .error (.unassignedOpcode (opcField w)))) = true := by decide +kernel

/-- 95 section 2, the other way. -/
theorem test_encode_words :
    encode (.shl 1) = 0x04010000 ∧ encode (.ixshr 18) = 0x12120000 ∧
      encode (.submitp 65535) = 0x2100FFFF ∧ encode (.check true) = 0x22000001 ∧
      encode .offset = 0x41000000 := by decide

theorem test_table_word : decodeTableWord 32 0x11070000 = some (.xshl 7) := by decide

/-! ### The commands: vectors of 95 -/

/-- The reset state with the two operands. -/
def withOperands (opa opb : Word) : State := { State.reset with opa := opa, opb := opb }

/-- A ready block: 624 SUBMITs of 0 and a CHECK, whose buffer is all zero (R97 (e)). -/
def readyState : State := { State.reset with fill := 624, ledger := 19968, ready := true }

/-- What is asked of the state a command answers; false where it answers none. -/
def answers (i : Instr) (s : State) (p : State → Bool) : Bool :=
  match exec i s with
  | .next t => p t
  | _ => false

/-- RES and ERR after a command on two operands, from reset. -/
def result (i : Instr) (opa opb : Word) : Word × BitVec 4 :=
  match exec i (withOperands opa opb) with
  | .next t => (t.res, t.err)
  | _ => (0, 15)

/-- T3. -/
theorem test_and : result .and 0xF0F0F0F0 0x3C3C3C3C = (0x30303030, 0) := by decide
theorem test_or : result .or 0xF0F0F0F0 0x3C3C3C3C = (0xFCFCFCFC, 0) := by decide
theorem test_xor : result .xor 0x12345678 0xFFFFFFFF = (0xEDCBA987, 0) := by decide
theorem test_shl_top_bit_lost : result (.shl 1) 0x80000001 0 = (0x00000002, 0) := by decide
theorem test_shl_largest : result (.shl 31) 0x00000003 0 = (0x80000000, 0) := by decide
theorem test_shr_zero_fill : result (.shr 4) 0xFFFFFFFF 0 = (0x0FFFFFFF, 0) := by decide
theorem test_shr_largest : result (.shr 31) 0x80000001 0 = (0x00000001, 0) := by decide

/-- T4a. -/
theorem test_xshr : result (.xshr 11) 0x80000000 0xFFFFFFFF = (0x80100000, 0) := by decide
theorem test_xshr_zero_shift : result (.xshr 0) 0x12345678 0xFFFF0000 = (0x00005678, 0) := by decide
theorem test_xshl : result (.xshl 7) 0x00000001 0x9D2C5680 = (0x00000081, 0) := by decide
theorem test_xshl_largest : result (.xshl 31) 0x00000001 0x80000000 = (0x80000001, 0) := by decide
theorem test_ixshr_full_chain :
    result (.ixshr 1) 0xFFFFFFFF 0xFFFFFFFF = (0xAAAAAAAA, 0) := by decide +kernel
theorem test_ixshr_zero_shift_zero_mask :
    result (.ixshr 0) 0x00001234 0 = (0x00001234, 0) := by decide +kernel
theorem test_ixshl_full_chain :
    result (.ixshl 1) 0xFFFFFFFF 0xFFFFFFFF = (0x55555555, 0) := by decide +kernel
theorem test_ixshl_zero_shift_fails : result (.ixshl 0) 0x00001234 1 = (0, 5) := by decide +kernel

/-- T4b. -/
theorem test_temper : result .temper 0x12345678 0 = (0x2B7E4A2D, 0) := by decide
theorem test_temper_ones : result .temper 0xFFFFFFFF 0 = (0x6FE01BF8, 0) := by decide
theorem test_untemper : result .untemper 0xD091BB5C 0 = (0x9B0AFA27, 0) := by decide +kernel
theorem test_untemper_strict_reverse_order :
    result .untemper 0x00400091 0 = (0x00000001, 0) := by decide +kernel

/-- T5: SUBMIT of 0x1234 from reset. -/
theorem test_submit :
    answers .submit (withOperands 0x00001234 0) (fun t =>
      t.res == 0x08030054 && t.buf.word 623 == 0x08030054 && t.buf.word 622 == 0 &&
      t.fill.val == 1 && t.ledger == 32 && t.status == 0x000) = true := by decide +kernel

/-- T5: SUBMIT in MATRIX mode changes only LEDGER. -/
theorem test_submit_in_matrix_mode :
    answers .submit { withOperands 0x00001234 0 with mode := .matrix, ledger := 8 } (fun t =>
      t.res == 0 && t.fill.val == 0 && t.ledger == 40 && t.status == 0x020) = true := by
  decide +kernel

/-- T5: SUBMITP 33 from reset; SUBMITP 64 on a ready block (code 5 before code 6). -/
theorem test_submitp :
    answers (.submitp 33) State.reset (fun t => t.ledger == 33 && t.status == 0x020) = true := by
  decide +kernel
theorem test_submitp_operand_before_state :
    answers (.submitp 64) readyState (fun t => t.err == 5 && t.ledger == 19968) = true := by
  decide +kernel

/-- T5: CHECK with too few bits; CHECK 1 on a ready block. -/
theorem test_check_too_few_bits :
    answers (.check false) { State.reset with ledger := 19936, fill := 623 } (fun t =>
      t.status == 0x101 && !t.ready) = true := by decide +kernel
theorem test_check_matrix_before_ready :
    answers (.check true) readyState (fun t => t.status == 0x153 && t.res == 0) = true := by
  decide +kernel

/-- T5, R109: CHECK with FILL < 624 sets the fatal lock, and CLEAR under it fails with code 2. -/
theorem test_check_invariant_violation :
    answers (.check false) { State.reset with ledger := 19968, fill := 623 } (fun t =>
      t.status == 0x182 && answers .clear t fun u => u.err == 2 && u.fill.val == 623) = true := by
  decide +kernel

/-- P4 step 11: CLEAR keeps RES and ERRSEEN. -/
theorem test_clear :
    answers .clear { withOperands 0x1234 1 with
        res := 0x08030054, fill := 1, ledger := 40, mode := .matrix, err := 5, errSeen := true }
      (fun t => t.status == 0x100 && t.res == 0x08030054 && t.ledger == 0 && t.fill.val == 0 &&
        t.opa == 0x1234) = true := by decide +kernel

/-- T7a: the last step of the loop on e0 = 0x80000000 reads the new word 0; A appears in mag. -/
theorem test_twist_step :
    (twistAt (Buf.zero.put 1 0x00000001) 0).word 0 = 0x9908B0DF := by decide +kernel
/-- T7b: the first backward steps on e0 = 0x80000000: word 228 and then word 1 take 0x321161BF. -/
theorem test_untwist_step :
    (untwistAt (Buf.zero.put 0 0x80000000) 1).word 1 = 0x321161BF := by decide +kernel

/-- R99: TWIST before readiness gives code 1. -/
theorem test_twist_not_ready :
    answers .twist State.reset (fun t => t.status == 0x101) = true := by decide +kernel
theorem test_untwist_not_ready :
    answers .untwist State.reset (fun t => t.status == 0x101) = true := by decide +kernel

/-- T8: with s2[0] in BUF[0], PREDICT returns output 624 and moves CURSOR to 1. -/
theorem test_predict :
    answers .predict { readyState with buf := Buf.zero.put 0 0x1110868D } (fun t =>
      t.res == 0xF914DC58 && t.cursor.val == 1 && t.status == 0x050) = true := by decide +kernel
/-- R103: with CURSOR = 623 no twist happens and CURSOR becomes 624. -/
theorem test_predict_last_word :
    answers .predict { readyState with
        buf := Buf.zero.put 623 0x9B0AFA27, cursor := 623 } (fun t =>
      t.res == 0xD091BB5C && t.cursor.val == 624) = true := by decide +kernel

/-- P4 steps 8 and 9: OFFSET of 0 succeeds before readiness, OFFSET of 1 does not. -/
theorem test_offset_zero :
    answers .offset State.reset (fun t => t.status == 0x000) = true := by decide +kernel
theorem test_offset_not_ready :
    answers .offset (withOperands 1 0) (fun t => t.status == 0x101) = true := by decide +kernel

/-- T9a: the counts of OFFSET -m. -/
theorem test_offset_counts :
    [1, 100, 623, 624, 625, 1248, 1300, 2147483648].map (fun m => (untwistCount m, catchUpCount m)) =
      [(1, 623), (1, 524), (1, 1), (2, 624), (2, 623), (3, 624), (3, 572), (3441481, 496)] := by
  decide

/-! ### The bus: vectors of 95 section 10 -/

/-- The response to one access on a state. -/
def reply (s : State) (a : Access) : Option Response := (busAccess s a).response

theorem test_bus_reads :
    reply State.reset (.read 0x000 32) = some (.data 0x4D543139) ∧
      reply State.reset (.read 0x004 32) = some (.data 0) ∧
      reply { State.reset with buf := Buf.zero.put 623 7 } (.read 0x19BC 32) = some (.data 7) := by
  decide +kernel

theorem test_bus_errors :
    reply State.reset (.write 0x010 32 5) = some .busErr ∧
      reply State.reset (.read 0x024 32) = some .busErr ∧
      reply State.reset (.read 0x19C0 32) = some .busErr ∧
      reply State.reset (.read 0x008 8) = some .busErr ∧
      reply State.reset (.read 0x00A 32) = some .busErr ∧
      reply State.reset (.write 0x1000 32 5) = some .busErr ∧
      reply (State.reset.withFetchWord 32 0x14000000) (.write 0x004 32 0) = some .busErr := by
  decide +kernel

theorem test_bus_lanes : lane 0x12345678 0 = 0x78 ∧ lane 0x12345678 3 = 0x12 := by decide

/-- Every BUF offset of the map is the register it is written for (R35, R36). -/
theorem test_register_map_ends :
    registerAt 0x1000 = some (.buf 0) ∧ registerAt 0x19BC = some (.buf 623) ∧
      registerAt 0x020 = some .ledger ∧ registerAt 0xFFC = none ∧ registerAt 0x1FFC = none := by
  decide

/-! ### The host's lines (R63 to R65) -/

theorem test_assembler_lines :
    parseCommand "  xshl 7 ; step 2".toList = some (.xshl 7) ∧
      parseCommand "SHR 0x1F".toList = some (.shr 31) ∧
      parseCommand "CHECK".toList = some (.check false) ∧
      parseCommand "CHECK 1".toList = some (.check true) ∧
      parseCommand "SUBMITP 0".toList = none ∧ parseCommand "SHL 32".toList = none := by
  decide +kernel

/-- 95 section 2: BACK 625 and the wide submission. -/
theorem test_pseudo_instructions :
    (Pseudo.back 625).expand = some (lda 0xFFFFFD8F :: commandLine .offset) ∧
      (Pseudo.submitv 0x0000000200000001 64).expand =
        some ([lda 1] ++ commandLine .submit ++ [lda 2] ++ commandLine .submit) ∧
      (Pseudo.submitv 5 33).expand = some (commandLine (.submitp 33)) := by
  decide +kernel

/-- R127, line by line: without the optional lines, and with both. -/
theorem test_reconstruction_protocol :
    reconstruction false [1] 1 none =
        [lda 1] ++ commandLine .submit ++ commandLine (.check false) ++ commandLine .predict ∧
      reconstruction true [1, 2] 0 (some 0xFFFFFFFF) =
        commandLine .clear ++ [lda 1] ++ commandLine .submit ++ [lda 2] ++ commandLine .submit ++
          commandLine (.check false) ++ [lda 0xFFFFFFFF] ++ commandLine .offset := by
  decide +kernel

/-- R64, 95 section 11: `.each` over wide values, each submitted in its chunks. -/
theorem test_each_binds_wide_values :
    each [0x0000000200000001, 0x0000000400000003]
        (fun v => ((Pseudo.submitv v 64).expand).getD []) =
      each [(1 : Word), 2, 3, 4] (fun v => lda v :: commandLine .submit) := by
  decide +kernel

/-! ### Every table row runs as the first command after reset -/

theorem test_first_command_runs :
    step (State.reset.withFetchWord 32 0x14000000) =
      exec .temper (State.reset.withFetchWord 32 0x14000000) := by rfl

/-! ### Witnesses: the hypotheses of each statement can be met together -/

/-- The state with a word in flight and no latency left. -/
def inFlight (w : Nat) : State := State.reset.withFetchWord 32 w

/-- A busy state in which the host moves next, with this event first. -/
def busyWith (e : HostEvent) : State := { inFlight 0x14000000 with latency := 2, inputs := [e] }

/-- An idle state with this event first. -/
def idleWith (e : HostEvent) : State := { State.reset with inputs := [e] }

/-- The fatal lock. -/
def fatalState : State := { State.reset with fatal := true, err := 2, errSeen := true }

theorem witness_CommandWordsDecodeBack : (Instr.submitp 65535).WellFormed := by decide

theorem witness_DecodedWordsEncodeBack : decode 0x041F0000 = .ok (.shl 31) := by decide

theorem witness_DecodeIsTheOpcodeMap :
    ∃ r ∈ opcodeMap, r.selects 0x22000001 = true :=
  ⟨⟨0x22000000, maskF, fun w => .check (fmField w)⟩, by simp [opcodeMap], by decide⟩

theorem witness_IllegalWordsOnlyReportCodeFour :
    (inFlight 0x21010008).fatal = false ∧ sequencerTurn (inFlight 0x21010008) = true ∧
      ∃ e, decode (inFlight 0x21010008).pending = .error e :=
  ⟨rfl, rfl, .reservedBitSet 0x21, by decide⟩

theorem witness_StepRunsTheDecodedCommand :
    (inFlight 0x14000000).busy = true ∧ (inFlight 0x14000000).latency = 0 ∧
      decode (inFlight 0x14000000).pending = .ok .temper ∧
      decodeTableWord 32 0x14000000 = some .temper := by decide

theorem witness_FailingCommandsChangeNothingElse :
    (∃ t, exec (.submitp 0) State.reset = .next t ∧ t.err ≠ 0) ∧
      ∃ t, exec .and State.reset = .next t ∧ t.err = 0 :=
  ⟨⟨_, rfl, by decide⟩, ⟨_, rfl, by decide⟩⟩

theorem witness_ResultCodesHaveTheirCauses :
    (State.reset.fatal = false ∧ ∃ t, exec (.check true) State.reset = .next t) ∧
      ((inFlight 0).fatal = false ∧ sequencerTurn (inFlight 0) = true ∧
        (∃ e, decode (inFlight 0).pending = .error e) ∧ ∃ t, step (inFlight 0) = .next t) ∧
      (fatalState.withFetchWord 32 0).fatal = true ∧
      sequencerTurn (fatalState.withFetchWord 32 0) = true :=
  ⟨⟨rfl, _, rfl⟩, ⟨rfl, rfl, ⟨.unassignedOpcode 0, by decide⟩, _, rfl⟩, rfl, rfl⟩

theorem witness_FatalLockHoldsUntilReset :
    fatalState.fatal = true ∧ fatalState.busy = false ∧
      sequencerTurn (fatalState.withFetchWord 32 0x23000000) = true ∧
      (∃ t, step (fatalState.withFetchWord 32 0x23000000) = .next t ∧ t.err = 2) ∧
      (∃ t, step { fatalState with inputs := [.reset none] } = .next t ∧ t.fatal = false) ∧
      registerAt (BitVec.toNat (0x014 : BitVec 13)) = some .status :=
  ⟨rfl, rfl, rfl, ⟨_, rfl, rfl⟩, ⟨_, rfl, rfl⟩, by decide⟩

/-- The reset state has the invariant's parts (R123). -/
theorem reset_inv_parts : State.reset.CountsAgree ∧ State.reset.UnfilledZero :=
  ⟨fun _ => ⟨0, rfl, rfl⟩, fun k _ => Buf.word_zero k⟩

/-- A ready block with an all-zero buffer has the invariant (R32). -/
theorem witness_ready_invariant : readyState.Inv ∧ readyState.ready = true := by
  have consistent : Buf.zero.Consistent := by
    simp only [Buf.Consistent, Buf.word_zero]
    decide
  have sound : readyState.ReadySound := fun _ => ⟨rfl, rfl, by decide, consistent⟩
  have counts : readyState.CountsAgree := fun _ => ⟨624, rfl, rfl⟩
  have zeros : readyState.UnfilledZero := fun k _ => Buf.word_zero k
  exact ⟨⟨sound, by decide, counts, zeros, rfl, by decide, by decide, by decide⟩, rfl⟩

theorem witness_EveryStepKeepsTheInvariant :
    readyState.Inv ∧ ∃ t, step readyState = .next t :=
  ⟨witness_ready_invariant.1, _, rfl⟩

theorem witness_OnlyTheNamedCommandsWriteEachField :
    ∃ t, exec (.submitp 1) State.reset = .next t ∧ t.mode ≠ State.reset.mode ∧
      t.ledger ≠ State.reset.ledger :=
  ⟨_, rfl, by decide +kernel, by decide +kernel⟩

theorem witness_alu : (withOperands 1 2).fatal = false := rfl

theorem witness_shift_fields : (0 < 32 ∧ 31 < 32) ∧ State.reset.fatal = false := by decide

theorem witness_SolverFindsTheUniquePreimage :
    (1 ≤ 31 ∧ 31 < 32) ∧ solve 0x80000001 31 0xFFFFFFFF .right = some 0x80000000 ∧
      shiftXor .right 0x80000000 31 0xFFFFFFFF = 0x80000001 := by decide +kernel

theorem witness_inverse_shifts :
    (31 < 32 ∧ 1 ≤ 31) ∧ (withOperands 1 1).fatal = false ∧ (withOperands 1 1).opb ≠ 0 ∧
      (withOperands 1 0).opb = 0 := by decide

theorem witness_PushesKeepTheLast624Words : 624 ≤ 624 ∧ 623 < 624 := by decide

theorem witness_SubmitPushesTheRawWord :
    readyState.fatal = false ∧ readyState.ready = true ∧ State.reset.ready = false ∧
      State.reset.mode = .direct ∧ ({ State.reset with mode := .matrix } : State).mode = .matrix := by
  decide

theorem witness_SubmitpCountsBitsAndEntersMatrixMode :
    65535 < 65536 ∧ (65535 : Nat) ≠ 0 ∧ (65535 : Nat) % 32 ≠ 0 ∧ (65504 : Nat) % 32 = 0 ∧
      State.reset.fatal = false ∧ State.reset.ready = false ∧ readyState.ready = true := by decide

theorem witness_CheckTestsAndReadies :
    State.reset.fatal = false ∧ State.reset.ledger.toNat < 19968 ∧
      19968 ≤ readyState.ledger.toNat ∧ readyState.mode = .direct ∧ readyState.ready = true ∧
      readyState.fill.val = 624 ∧
      ({ readyState with ready := false, fill := 623 } : State).fill.val < 624 ∧
      ({ readyState with mode := .matrix } : State).mode = .matrix := by decide

theorem witness_ClearEmptiesTheController :
    State.reset.fatal = false ∧ fatalState.fatal = true := by decide

theorem witness_TwistIsTheThreeSegments :
    226 < 227 ∧ (227 ≤ 227 ∧ 622 < 623) ∧ (227 ≤ 622 ∧ 622 < 623) := by decide

theorem witness_TwistIgnoresTheDeadBits :
    (0x7FFFFFFF : Word).getLsbD 31 = (Buf.zero.word 0).getLsbD 31 := by
  rw [Buf.word_zero]
  decide

/-- The zero stream (R97 (e)). -/
def zeroStream : Int → Word := fun _ => 0

theorem zeroStream_isStream : Stream zeroStream := by
  intro n
  have h : (0 : Word) = 0 ^^^ mag (mix 0 0) := by decide
  exact h

theorem zero_is_window (j : Int) : Buf.zero = window zeroStream j := by
  apply Buf.ext_word
  intro k hk
  rw [window, Buf.word_ofFn _ hk, Buf.word_zero, zeroStream]

/-- A stream that is not zero: it meets the recurrence where only word 0 is 1, a dead bit (R97 (a)). -/
theorem witness_TwistSlidesTheWindow :
    ∃ x : Nat → Word, x 0 ≠ 0 ∧ ∀ n, x (n + 624) = x (n + 397) ^^^
      mag ((x n &&& 0x80000000) ||| (x (n + 1) &&& 0x7FFFFFFF)) := by
  refine ⟨fun n => if n = 0 then 1 else 0, by decide, fun n => ?_⟩
  have h0 : (0 : Word) = 0 ^^^ mag ((1 &&& 0x80000000) ||| (0 &&& 0x7FFFFFFF)) := by decide
  have h1 : (0 : Word) = 0 ^^^ mag ((0 &&& 0x80000000) ||| (0 &&& 0x7FFFFFFF)) := by decide
  by_cases hn : n = 0
  · subst hn
    exact h0
  · simpa [hn] using h1

/-- The same stream serves; the first window that R106 covers is that at 1. -/
theorem witness_UntwistSlidesTheWindowBack :
    (∃ x : Nat → Word, x 0 ≠ 0 ∧ ∀ n, x (n + 624) = x (n + 397) ^^^
      mag ((x n &&& 0x80000000) ||| (x (n + 1) &&& 0x7FFFFFFF))) ∧ 1 ≤ 1 :=
  ⟨witness_TwistSlidesTheWindow, by decide⟩

theorem witness_TwistCommandsApplyTheEngine :
    State.reset.fatal = false ∧ State.reset.ready = false ∧ readyState.fatal = false ∧
      readyState.ready = true := by decide

theorem witness_PredictReturnsTheNextOutput :
    readyState.fatal = false ∧ readyState.ready = true ∧ readyState.cursor.val < 624 ∧
      ({ readyState with cursor := 623 } : State).cursor.val < 624 ∧
      ({ readyState with cursor := 624 } : State).cursor.val = 624 := by decide

theorem witness_OffsetRunsItsCounts :
    (withOperands 0 0).opa.toInt = 0 ∧ (withOperands 1 0).opa.toInt ≠ 0 ∧
      (withOperands 1 0).ready = false ∧
      0 < ({ readyState with opa := 0x7FFFFFFF } : State).opa.toInt ∧
      ({ readyState with opa := 0x80000000 } : State).opa.toInt < 0 ∧
      ((2147483648 : Nat) : Int) = -({ readyState with opa := 0x80000000 } : State).opa.toInt ∧
      readyState.ready = true ∧ readyState.fatal = false := by decide

/-- The hypotheses of the four statements about a ready block on a stream. -/
theorem witness_stream_position :
    Stream zeroStream ∧ readyState.fatal = false ∧ readyState.ready = true ∧
      readyState.buf = window zeroStream 5 :=
  ⟨zeroStream_isStream, rfl, rfl, zero_is_window 5⟩

theorem witness_ReconstructionPredictsTheStream :
    Stream zeroStream ∧ 624 ≤ 624 ∧ State.reset.fatal = false ∧ State.reset.ready = false ∧
      State.reset.mode = .direct :=
  ⟨zeroStream_isStream, by decide, rfl, rfl, rfl⟩

theorem witness_CheckTwistsTheLast624Submissions :
    624 ≤ (List.replicate 625 (0x1234 : Word)).length ∧ State.reset.fatal = false ∧
      State.reset.ready = false ∧ State.reset.mode = .direct :=
  ⟨le_of_le_of_eq (by decide : 624 ≤ 625) List.length_replicate.symm, rfl, rfl, rfl⟩

theorem witness_ResetInputAbandonsTheCommand :
    (busyWith (.reset none)).inputs = [.reset none] ∧ (busyWith (.reset none)).latency ≠ 0 ∧
      (idleWith (.reset (some (.read 0 32)))).busy = false := by decide

theorem witness_CmdWriteIssuesOneCommand :
    (idleWith (.access (.write 0x004 32 0))).busy = false ∧
      (busyWith (.access (.write 0x004 32 0))).busy = true ∧
      (busyWith (.access (.write 0x004 32 0))).latency ≠ 0 ∧
      (busyWith (.access (.write 0x004 32 0))).inputs = [.access (.write 0x004 32 0)] := by decide

theorem witness_OperandWritesStoreOnlyWhenIdle :
    (idleWith (.access (.write 0x008 32 9))).busy = false ∧
      (idleWith (.access (.write 0x00C 32 9))).inputs = [.access (.write 0x00C 32 9)] ∧
      (busyWith (.access (.write 0x008 32 9))).busy = true ∧
      (busyWith (.access (.write 0x008 32 9))).latency ≠ 0 := by decide

/-- The boundary offsets of the map's clauses: the last counter, the first and last words of BUF, and
the reserved offsets beside them. -/
theorem witness_IdleReadsFollowTheRegisterMap :
    ∀ off ∈ ([0x000, 0x020, 0x024, 0xFFC, 0x1000, 0x1001, 0x19BC, 0x19C0, 0x1FFC] :
        List (BitVec 13)),
      (idleWith (.access (.read off 32))).busy = false ∧
        (idleWith (.access (.read off 32))).inputs = [.access (.read off 32)] :=
  fun _ _ => ⟨rfl, rfl⟩

theorem witness_RefusedAccessesHaveNoEffect :
    (idleWith (.access (.read 0x00A 32))).busy = false ∧
      BitVec.toNat (0x00A : BitVec 13) % 4 ≠ 0 ∧
      (busyWith (.access (.write 0x010 32 1))).latency ≠ 0 ∧
      0x010 ≤ BitVec.toNat (0x010 : BitVec 13) ∧ 0x19C0 ≤ BitVec.toNat (0x19C0 : BitVec 13) ∧
      0x024 ≤ BitVec.toNat (0x024 : BitVec 13) := by decide

theorem witness_BusyReadsAreUnspecified :
    ([0x000, 0x004, 0x008, 0x014, 0x19BC] : List (BitVec 13)).all (fun off =>
      (busyWith (.access (.read off 32))).busy &&
        (busyWith (.access (.read off 32))).latency != 0 &&
        (registerAt off.toNat).isSome) = true := by decide

theorem witness_PollingEndsWithTheFullStatus :
    (idleWith .poll).inputs = [.poll] ∧ (idleWith .poll).busy = false ∧
      (busyWith .poll).inputs = [.poll] ∧ (busyWith .poll).busy = true ∧
      (busyWith .poll).latency ≠ 0 := by decide

theorem witness_BusAccessesLeaveTheControllerAlone :
    sequencerTurn (idleWith .poll) = false ∧ (∀ i rest, (idleWith .poll).inputs ≠ .reset i :: rest) ∧
      ∃ t, step (idleWith .poll) = .next t :=
  ⟨rfl, fun _ _ h => by simp [idleWith] at h, _, rfl⟩

theorem witness_CommandInFlightCompletes :
    (busyWith .poll).busy = true ∧ ∀ e ∈ (busyWith .poll).inputs, ∀ i, e ≠ .reset i := by
  refine ⟨rfl, fun e he i h => ?_⟩
  subst h
  simp [busyWith] at he

theorem witness_CommandLineRunsItsCommand :
    (Instr.ixshl 0).WellFormed ∧
      ({ State.reset with inputs := commandLine (.ixshl 0) } : State).busy = false ∧
      ({ State.reset with inputs := commandLine (.ixshl 0) } : State).inputs =
        commandLine (.ixshl 0) ++ [] := by decide

theorem witness_LanesAreLittleEndian : 7 < 8 := by decide

theorem witness_WindowIsEightKibAtBase :
    8191 < 8192 ∧ ∀ off, off < 8192 → Config.base + 8192 ≠ Config.base + off := by
  refine ⟨by decide, fun off h => ?_⟩
  omega

end Sys2Proof.Tests
end

section
/-! What a command's own effect can do, said once: the raised codes with their causes, and the
states a success can leave. Every statement on the fields of the state derives from it. -/

namespace Sys2Proof.Machine

/-! ### The image of the twist engine is consistent (R96, R97 (b)) -/

/-- The lower 31 bits of a mixing word are those of its second word (R93). -/
theorem mix_and_lowerMask (u l : Word) : mix u l &&& lowerMask = l &&& lowerMask := by
  simp [mix, BitVec.and_or_distrib_right, BitVec.and_assoc]

/-- Bit 31 of `mag y` tells whether A was added (C8). -/
theorem getLsbD_mag_31 (y : Word) : (mag y).getLsbD 31 = y.getLsbD 0 := by
  cases h : y[0] <;> simp [mag, h]

/-- A word is its upper 31 bits, moved down and up again, with its bit 0 put back. -/
theorem shiftLeft_ushiftRight_one_or (y : Word) :
    ((y >>> 1) <<< 1) ||| (if y[0] then 1 else 0) = y := by
  ext j hj
  cases j with
  | zero => cases y[0] <;> simp
  | succ j => cases y[0] <;> simp [Nat.add_comm 1 j, BitVec.getLsbD_eq_getElem hj]

/-- g undoes mag (R96). -/
@[simp] theorem unmag_mag (y : Word) : unmag (mag y) = y := by
  have h := shiftLeft_ushiftRight_one_or y
  rw [unmag, getLsbD_mag_31]
  cases hy : y[0] with
  | false => simpa [mag, hy] using h
  | true => simpa [mag, hy, BitVec.xor_assoc] using h

/-- The forward loop ends with its step at word 623 (R93). -/
theorem twist_eq_twistAt (b : Buf) : twist b = twistAt (twistSteps 623 b) 623 := by
  unfold twist
  rfl

/-- Every output of twist is consistent (R97 (b)): its last step reads the new BUF[0]. -/
theorem twist_consistent (b : Buf) : (twist b).Consistent := by
  rw [twist_eq_twistAt, Buf.Consistent, word_twistAt_same, word_twistAt_other _ (by decide),
    word_twistAt_other _ (by decide)]
  generalize twistSteps 623 b = c
  have wrapped : c.word (623 + 397) = c.word 396 ∧ c.word (623 + 1) = c.word 0 := ⟨rfl, rfl⟩
  rw [wrapped.1, wrapped.2, BitVec.xor_comm, ← BitVec.xor_assoc, BitVec.xor_self, BitVec.zero_xor,
    unmag_mag, mix_and_lowerMask]

/-- The backward loop ends with its step at word 0 (R95). -/
theorem untwistSteps_last (n : Nat) (b : Buf) : ∃ c, untwistSteps (n + 1) b = untwistAt c 0 := by
  induction n generalizing b with
  | zero => exact ⟨b, rfl⟩
  | succ n ih => exact ih (untwistAt b (n + 1))

/-- Every output of untwist is consistent (R97 (b)): its last step computes the low bits of BUF[0]
from words that stay. -/
theorem untwist_consistent (b : Buf) : (untwist b).Consistent := by
  obtain ⟨c, hc⟩ : ∃ c, untwist b = untwistAt c 0 := by
    unfold untwist
    exact untwistSteps_last 623 b
  rw [hc, Buf.Consistent, word_untwistAt_same, word_untwistAt_other _ (by decide),
    word_untwistAt_other _ (by decide), mix_and_lowerMask]

/-- Any number of untwists keep consistency (R97 (d)). -/
theorem untwistTimes_consistent (n : Nat) {b : Buf} (h : b.Consistent) :
    (untwistTimes n b).Consistent := by
  induction n generalizing b with
  | zero => exact h
  | succ n ih => exact ih (untwist_consistent b)

/-- A predict step keeps consistency: it leaves BUF or twists it (R101). -/
theorem predictStep_consistent {s : State} (h : s.buf.Consistent) :
    (predictStep s).buf.Consistent := by
  rcases s.refreshed_cases with ⟨-, hs⟩ | ⟨-, hs⟩
  · simpa [predictStep, hs] using twist_consistent s.buf
  · simpa [predictStep, hs] using h

/-- Any number of predict steps keep consistency (R104). -/
theorem predictSteps_consistent (n : Nat) {s : State} (h : s.buf.Consistent) :
    (predictSteps n s).buf.Consistent := by
  induction n generalizing s with
  | zero => exact h
  | succ n ih => exact ih (predictStep_consistent h)

/-! ### What an effect can do -/

/-- The commands whose rule may name RES (R17): all but CLEAR, TWIST, UNTWIST, OFFSET and
SUBMITP. -/
def MayWriteRes (i : Instr) : Prop :=
  i ≠ .clear ∧ i ≠ .twist ∧ i ≠ .untwist ∧ i ≠ .offset ∧ ∀ width, i ≠ .submitp width

/-- What the effect of a command can answer at s: a code, or the state it leaves, with the part of
the controller's state that allows it. -/
inductive EffectAnswers (s : State) : Instr → Except ResultCode State → Prop
  /-- A code that leaves FATAL alone. -/
  | refused {i : Instr} {c : ResultCode} (nonzero : c ≠ .ok) (harmless : c ≠ .invariantViolation) :
      EffectAnswers s i (.error c)
  /-- INVARIANT_VIOLATION, by CHECK 0 alone (R90). -/
  | violated (enough : 19968 ≤ s.ledger.toNat) (direct : s.mode = .direct)
      (short : s.fill.val < 624) : EffectAnswers s (.check false) (.error .invariantViolation)
  /-- RES alone is written: the ALU, the tempering unit, and CHECK 0 once READY = 1 (R66, R90). -/
  | wroteRes {i : Instr} (w : Word) (named : MayWriteRes i) :
      EffectAnswers s i (.ok (s.setRes w))
  /-- SUBMIT in DIRECT mode (R87). -/
  | pushed (raw : Word) (notReady : s.ready = false) (direct : s.mode = .direct) :
      EffectAnswers s .submit (.ok (((s.addBits 32).push raw).setRes raw))
  /-- SUBMIT in MATRIX mode (R87). -/
  | counted (notReady : s.ready = false) (matrix : s.mode = .matrix) :
      EffectAnswers s .submit (.ok (s.addBits 32))
  /-- SUBMITP (R88). -/
  | countedPartial (width : Nat) (notReady : s.ready = false) :
      EffectAnswers s (.submitp width) (.ok (s.toMatrix.addBits width))
  /-- CHECK 0 on the twisting path (R90). -/
  | readied (enough : 19968 ≤ s.ledger.toNat) (direct : s.mode = .direct)
      (full : s.fill.val = 624) :
      EffectAnswers s (.check false) (.ok (s.regenerate.markReady.setRes 1))
  /-- CLEAR (R91). -/
  | cleared : EffectAnswers s .clear (.ok s.emptied)
  /-- TWIST (R99). -/
  | twisted (ready : s.ready = true) : EffectAnswers s .twist (.ok s.regenerate)
  /-- UNTWIST (R100). -/
  | untwisted (ready : s.ready = true) :
      EffectAnswers s .untwist (.ok (s.setBuf (untwist s.buf)))
  /-- PREDICT (R103). -/
  | predicted (b : Buf) (c : Fin 625) (w : Word) (ready : s.ready = true)
      (keeps : s.buf.Consistent → b.Consistent) :
      EffectAnswers s .predict (.ok { s with buf := b, cursor := c, res := w })
  /-- OFFSET by n ≠ 0 (R104). -/
  | moved (b : Buf) (c : Fin 625) (ready : s.ready = true)
      (keeps : s.buf.Consistent → b.Consistent) :
      EffectAnswers s .offset (.ok { s with buf := b, cursor := c })
  /-- OFFSET by 0 (R104). -/
  | stayed : EffectAnswers s .offset (.ok s)

/-- An inverse step writes RES or raises BAD_OPERAND (R82, R83). -/
theorem solveEffect_answers {i : Instr} (hi : MayWriteRes i) (sh : Nat) (dir : Direction)
    (s : State) : EffectAnswers s i (solveEffect sh dir s) := by
  unfold solveEffect
  split
  · exact .wroteRes _ hi
  · exact .refused nofun nofun

/-- SUBMIT is refused, pushes or counts (R87). -/
theorem submitEffect_answers (s : State) : EffectAnswers s .submit (submitEffect s) := by
  unfold submitEffect
  split
  next => exact .refused nofun nofun
  next notReady =>
    have notReady := Bool.eq_false_iff.mpr notReady
    split
    next direct => exact .pushed _ notReady direct
    next matrix => exact .counted notReady matrix

/-- SUBMITP is refused or counts (R88). -/
theorem submitpEffect_answers (width : Nat) (s : State) :
    EffectAnswers s (.submitp width) (submitpEffect width s) := by
  unfold submitpEffect
  split
  next => exact .refused nofun nofun
  next =>
    split
    next => exact .refused nofun nofun
    next notReady => exact .countedPartial width (Bool.eq_false_iff.mpr notReady)

/-- CHECK runs its tests in the spec's order (R90). -/
theorem checkEffect_answers (fm : Bool) (s : State) :
    EffectAnswers s (.check fm) (checkEffect fm s) := by
  unfold checkEffect
  split
  next => exact .refused nofun nofun
  next enough =>
    have enough : 19968 ≤ s.ledger.toNat := Nat.le_of_not_lt enough
    split
    next => exact .refused nofun nofun
    next path =>
      obtain ⟨notMatrix, hfm⟩ := not_or.mp path
      obtain rfl : fm = false := Bool.eq_false_iff.mpr hfm
      have direct : s.mode = .direct := by
        cases hm : s.mode with
        | direct => rfl
        | matrix => exact absurd hm notMatrix
      split
      next => exact .wroteRes 1 (by simp [MayWriteRes])
      next =>
        split
        next short => exact .violated enough direct short
        next full =>
          have := s.fill.isLt
          exact .readied enough direct (by simp at full; omega)

/-- TWIST needs READY (R99). -/
theorem twistEffect_answers (s : State) : EffectAnswers s .twist (twistEffect s) := by
  unfold twistEffect
  split
  next ready => exact .twisted ready
  next => exact .refused nofun nofun

/-- UNTWIST needs READY (R100). -/
theorem untwistEffect_answers (s : State) : EffectAnswers s .untwist (untwistEffect s) := by
  unfold untwistEffect
  split
  next ready => exact .untwisted ready
  next => exact .refused nofun nofun

/-- PREDICT needs READY and keeps consistency (R103). -/
theorem predictEffect_answers (s : State) : EffectAnswers s .predict (predictEffect s) := by
  unfold predictEffect
  split
  next ready =>
    rw [predictStep_frame]
    exact .predicted _ _ _ ready predictStep_consistent
  next => exact .refused nofun nofun

/-- OFFSET needs READY unless n = 0, and keeps consistency (R104). -/
theorem offsetEffect_answers (s : State) : EffectAnswers s .offset (offsetEffect s) := by
  unfold offsetEffect
  dsimp only
  split
  next => exact .stayed
  next =>
    split
    next => exact .refused nofun nofun
    next ready =>
      have ready : s.ready = true := by simpa using ready
      split
      next =>
        rw [predictSteps_frame]
        exact .moved _ _ ready (predictSteps_consistent _)
      next =>
        rw [predictSteps_frame]
        exact .moved _ _ ready fun h =>
          predictSteps_consistent _ (s := s.setBuf _) (untwistTimes_consistent _ h)

/-- Every command's effect answers as its rule says (R66 to R104). -/
theorem effectOf_answers (i : Instr) (s : State) : EffectAnswers s i (effectOf i s) := by
  cases i with
  | and | or | xor | shl | shr | xshr | xshl | temper | untemper =>
    exact .wroteRes _ (by simp [MayWriteRes])
  | ixshr sh | ixshl sh => exact solveEffect_answers (by simp [MayWriteRes]) sh _ s
  | submit => exact submitEffect_answers s
  | submitp width => exact submitpEffect_answers width s
  | check fm => exact checkEffect_answers fm s
  | clear => exact .cleared
  | twist => exact twistEffect_answers s
  | untwist => exact untwistEffect_answers s
  | predict => exact predictEffect_answers s
  | offset => exact offsetEffect_answers s

/-- Everything a command can do (R108): under the lock nothing but the completion, a raised code, or
its effect. -/
theorem exec_cases {i : Instr} {s t : State} (h : exec i s = .next t) :
    (s.fatal = true ∧ t = s.complete .invariantViolation) ∨
      (s.fatal = false ∧ ∃ c, EffectAnswers s i (.error c) ∧ t = s.complete c) ∨
      (s.fatal = false ∧ ∃ s', EffectAnswers s i (.ok s') ∧ t = s'.complete .ok) := by
  rw [exec_eq_runCommand] at h
  injection h with h
  subst h
  have answers := effectOf_answers i s
  rcases runCommand_cases s (effectOf i) with hf | ⟨hf, c, he, ht⟩ | ⟨hf, s', he, ht⟩
  · exact .inl hf
  · exact .inr (.inl ⟨hf, c, he ▸ answers, ht⟩)
  · exact .inr (.inr ⟨hf, s', he ▸ answers, ht⟩)

end Sys2Proof.Machine
end

section
/-! The statements on the fields of the state: what a failing command leaves, who writes which
field, the invariant (R32), and the STATUS register (R29). -/

namespace Sys2Proof.Machine

/-! ### Failing commands, and the writers of each field -/

/-- No code a command raises is the code of success (R107). -/
theorem EffectAnswers.code_ne_ok {s : State} {i : Instr} {c : ResultCode}
    (h : EffectAnswers s i (.error c)) : c ≠ .ok := by
  cases h with
  | refused nonzero harmless => exact nonzero
  | violated enough direct short => nofun

/-- INVARIANT_VIOLATION comes from CHECK 0 alone, in a state that counts enough bits and too few
words (R90). -/
theorem EffectAnswers.of_invariantViolation {s : State} {i : Instr}
    (h : EffectAnswers s i (.error .invariantViolation)) :
    i = .check false ∧ 19968 ≤ s.ledger.toNat ∧ s.mode = .direct ∧ s.fill.val < 624 := by
  cases h with
  | refused nonzero harmless => exact absurd rfl harmless
  | violated enough direct short => exact ⟨rfl, enough, direct, short⟩

/-- No effect that succeeds writes the operands, the flags FATAL and ERRSEEN, or the model's own
fields (R15, R16, R25, R27). -/
theorem EffectAnswers.frame {s t : State} {i : Instr} (h : EffectAnswers s i (.ok t)) :
    t.opa = s.opa ∧ t.opb = s.opb ∧ t.fatal = s.fatal ∧ t.errSeen = s.errSeen ∧
      t.inputs = s.inputs ∧ t.response = s.response ∧ t.draws = s.draws := by
  cases h <;> exact ⟨rfl, rfl, rfl, rfl, rfl, rfl, rfl⟩

/-! One lemma for each field that a success may write: the commands that write it (R17 to R24). -/

section
variable {s t : State} {i : Instr} (h : EffectAnswers s i (.ok t))
include h

theorem EffectAnswers.mayWriteRes (hne : t.res ≠ s.res) : MayWriteRes i := by
  cases h with
  | wroteRes w named => exact named
  | pushed | counted | readied | predicted => simp [MayWriteRes]
  | countedPartial | cleared | twisted | untwisted | moved | stayed => exact absurd rfl hne

theorem EffectAnswers.writesBuf (hne : t.buf ≠ s.buf) :
    i ∈ [.submit, .check false, .clear, .twist, .untwist, .predict, .offset] := by
  cases h with
  | pushed | readied | cleared | twisted | untwisted | predicted | moved => simp
  | wroteRes | counted | countedPartial | stayed => exact absurd rfl hne

theorem EffectAnswers.writesFill (hne : t.fill ≠ s.fill) : i = .submit ∨ i = .clear := by
  cases h with
  | pushed => exact .inl rfl
  | cleared => exact .inr rfl
  | _ => exact absurd rfl hne

theorem EffectAnswers.writesCursor (hne : t.cursor ≠ s.cursor) :
    i ∈ [.check false, .clear, .twist, .predict, .offset] := by
  cases h with
  | readied | cleared | twisted | predicted | moved => simp
  | _ => exact absurd rfl hne

theorem EffectAnswers.writesLedger (hne : t.ledger ≠ s.ledger) :
    i = .submit ∨ i = .clear ∨ ∃ width, i = .submitp width := by
  cases h with
  | pushed | counted => exact .inl rfl
  | cleared => exact .inr (.inl rfl)
  | countedPartial width => exact .inr (.inr ⟨width, rfl⟩)
  | _ => exact absurd rfl hne

theorem EffectAnswers.writesMode (hne : t.mode ≠ s.mode) :
    (i = .clear ∧ t.mode = .direct) ∨ ((∃ width, i = .submitp width) ∧ t.mode = .matrix) := by
  cases h with
  | cleared => exact .inl ⟨rfl, rfl⟩
  | countedPartial width => exact .inr ⟨⟨width, rfl⟩, rfl⟩
  | _ => exact absurd rfl hne

theorem EffectAnswers.writesReady (hne : t.ready ≠ s.ready) :
    (i = .check false ∧ t.ready = true) ∨ (i = .clear ∧ t.ready = false) := by
  cases h with
  | readied => exact .inl ⟨rfl, rfl⟩
  | cleared => exact .inr ⟨rfl, rfl⟩
  | _ => exact absurd rfl hne

end

/-- Code 0 is the code of success alone (R107). -/
theorem ResultCode.code_eq_zero {c : ResultCode} : c.code = 0 ↔ c = .ok := by
  cases c <;> decide

/-- Code 2 is the code of INVARIANT_VIOLATION alone (R107). -/
theorem ResultCode.code_beq_two (c : ResultCode) : (c.code == 2) = (c == .invariantViolation) := by
  cases c <;> rfl

/-- No code exceeds 6 (R26). -/
theorem ResultCode.code_le_six (c : ResultCode) : c.code.toNat ≤ 6 := by
  cases c <;> decide

/-- A completion with a nonzero code, written out (R108). -/
theorem State.complete_of_ne_ok (s : State) {c : ResultCode} (h : c ≠ .ok) :
    s.complete c = { s with
      err := c.code, errSeen := true, fatal := s.fatal || c.code == 2, busy := false, pending := 0,
      latency := 0 } := by
  have seen : (s.errSeen || c != .ok) = true := by simp [h]
  rw [State.complete, seen, c.code_beq_two]

/-- A completion with a nonzero code shows it in ERR (R26). -/
theorem State.complete_err_ne_zero (s : State) {c : ResultCode} (h : c ≠ .ok) :
    (s.complete c).err ≠ 0 :=
  mt ResultCode.code_eq_zero.mp h

/-- Settles O8: by what a command can do, a nonzero code is a completion of the state it found. -/
theorem failingCommandsChangeNothingElse : Obligations.FailingCommandsChangeNothingElse := by
  intro i s t h
  rcases exec_cases h with ⟨-, rfl⟩ | ⟨-, c, answers, rfl⟩ | ⟨-, s', answers, rfl⟩
  · exact ⟨fun _ => s.complete_of_ne_ok nofun,
      fun hzero => absurd hzero (s.complete_err_ne_zero (by decide))⟩
  · have nonzero := answers.code_ne_ok
    exact ⟨fun _ => s.complete_of_ne_ok nonzero,
      fun hzero => absurd hzero (s.complete_err_ne_zero nonzero)⟩
  · obtain ⟨-, -, fatal, errSeen, -⟩ := answers.frame
    exact ⟨fun hne => absurd rfl hne, fun _ => by simp [fatal, errSeen]⟩

/-- Settles O13: a failure writes no field of the list but FATAL, and a success writes only what its
effect does. -/
theorem onlyTheNamedCommandsWriteEachField : Obligations.OnlyTheNamedCommandsWriteEachField := by
  intro i s t h
  rcases exec_cases h with ⟨locked, rfl⟩ | ⟨-, c, answers, rfl⟩ | ⟨-, s', answers, rfl⟩
  · simp [locked]
  · have fatal :
        (s.complete c).fatal ≠ s.fatal → i = .check false ∧ (s.complete c).fatal = true := by
      intro hne
      obtain rfl : c = .invariantViolation := by
        by_contra hc
        exact hne (by simp [hc])
      exact ⟨answers.of_invariantViolation.1, by simp⟩
    simpa using fatal
  · obtain ⟨opa, opb, fatal, -, inputs, response, draws⟩ := answers.frame
    exact ⟨opa, opb, inputs, response, draws, rfl, answers.mayWriteRes, answers.writesBuf,
      answers.writesFill, answers.writesCursor, answers.writesLedger, answers.writesMode,
      answers.writesReady, fun hne => absurd (by simp [fatal]) hne⟩

/-! ### The invariant (R32) -/

/-- The part of the invariant that speaks of the controller, apart from how the last command ended
and from the word in flight. -/
structure State.Sound (s : State) : Prop where
  readySound : s.ReadySound
  cursorZero : s.ready = false → s.cursor = 0
  countsAgree : s.CountsAgree
  unfilledZero : s.UnfilledZero
  notFatal : s.fatal = false

/-- The invariant is soundness with what ERR and the word in flight may be (R26, R27). -/
theorem State.inv_iff (s : State) :
    s.Inv ↔ s.Sound ∧ s.err.toNat ≤ 6 ∧ (s.err ≠ 0 → s.errSeen = true) ∧
      (s.busy = false → s.pending = 0) :=
  ⟨fun ⟨ready, cursor, counts, zeros, fatal, rest⟩ => ⟨⟨ready, cursor, counts, zeros, fatal⟩, rest⟩,
    fun ⟨⟨ready, cursor, counts, zeros, fatal⟩, rest⟩ =>
      ⟨ready, cursor, counts, zeros, fatal, rest⟩⟩

/-- An empty controller is sound (R91, R123). -/
theorem State.Sound.of_empty {s : State} (buf : s.buf = Buf.zero) (fill : s.fill = 0)
    (cursor : s.cursor = 0) (ledger : s.ledger = 0) (ready : s.ready = false)
    (fatal : s.fatal = false) : s.Sound where
  readySound := by simp [State.ReadySound, ready]
  cursorZero _ := cursor
  countsAgree _ := ⟨0, by simp [ledger], by simp [fill]⟩
  unfilledZero k _ := by simp [buf]
  notFatal := fatal

/-- Settles O12: the reset state is an empty controller with no error and no word in flight. -/
theorem resetStateHasTheInvariant : Obligations.ResetStateHasTheInvariant :=
  State.reset.inv_iff.mpr
    ⟨.of_empty rfl rfl rfl rfl rfl rfl, by decide, fun h => absurd rfl h, fun _ => rfl⟩

/-- Soundness does not speak of RES. -/
theorem State.Sound.setRes {s : State} (h : s.Sound) (w : Word) : (s.setRes w).Sound :=
  ⟨h.readySound, h.cursorZero, h.countsAgree, h.unfilledZero, h.notFatal⟩

/-- A full buffer has no unfilled word (R20). -/
theorem State.UnfilledZero.of_full {s : State} (full : s.fill.val = 624) : s.UnfilledZero :=
  fun k hk => absurd hk (by simp [full])

/-- While READY = 1, BUF may become any consistent buffer, at any CURSOR (R97 (d)). -/
theorem State.Sound.moved {s : State} (h : s.Sound) (ready : s.ready = true) {b : Buf}
    (keeps : s.buf.Consistent → b.Consistent) (c : Fin 625) :
    ({ s with buf := b, cursor := c } : State).Sound := by
  obtain ⟨full, direct, enough, consistent⟩ := h.readySound ready
  exact ⟨fun _ => ⟨full, direct, enough, keeps consistent⟩,
    fun notReady => absurd (ready.symm.trans notReady) (by decide), h.countsAgree,
    .of_full full, h.notFatal⟩

/-- LEDGER and FILL go on counting together through one SUBMIT (R32 (c), R86). -/
theorem State.CountsAgree.push {s : State} (h : s.CountsAgree) (raw : Word) :
    ((s.addBits 32).push raw).CountsAgree := by
  intro direct
  obtain ⟨p, ledger, fill⟩ := h direct
  refine ⟨p + 1, ?_, ?_⟩
  · simp only [State.push_ledger, State.addBits_ledger, sat32_toNat, ledgerMax_eq] at ledger ⊢
    omega
  · simp only [State.push_fill, State.addBits_fill, Fin.val_ofNat, bufWords_eq] at fill ⊢
    omega

/-- A push moves the unfilled words down with the others, and fills one more (R20, R86). -/
theorem State.UnfilledZero.push {s : State} (h : s.UnfilledZero) (raw : Word) :
    (s.push raw).UnfilledZero := by
  intro k hk
  simp only [State.push_fill, Fin.val_ofNat, bufWords_eq] at hk
  have below : k + 1 + s.fill.val < 624 := by omega
  rw [State.push_buf, Buf.word_push _ _ (by omega), if_neg (by omega)]
  exact h (k + 1) below

/-- Every effect that succeeds keeps the controller sound (R32). -/
theorem EffectAnswers.keeps_sound {s t : State} {i : Instr} (h : EffectAnswers s i (.ok t))
    (hs : s.Sound) : t.Sound := by
  cases h with
  | wroteRes w named => exact hs.setRes w
  | pushed raw notReady direct =>
    have pushed : ((s.addBits 32).push raw).Sound :=
      { readySound := by simp [State.ReadySound, notReady]
        cursorZero := hs.cursorZero
        countsAgree := hs.countsAgree.push raw
        unfilledZero := State.UnfilledZero.push (s := s.addBits 32) hs.unfilledZero raw
        notFatal := hs.notFatal }
    exact pushed.setRes raw
  | counted notReady matrix =>
    exact ⟨by simp [State.ReadySound, notReady], hs.cursorZero, by simp [State.CountsAgree, matrix],
      hs.unfilledZero, hs.notFatal⟩
  | countedPartial width notReady =>
    exact ⟨by simp [State.ReadySound, notReady], hs.cursorZero, by simp [State.CountsAgree],
      hs.unfilledZero, hs.notFatal⟩
  | readied enough direct full =>
    exact ⟨fun _ => ⟨full, direct, enough, twist_consistent s.buf⟩, fun _ => rfl, hs.countsAgree,
      .of_full full, hs.notFatal⟩
  | cleared => exact .of_empty rfl rfl rfl rfl rfl hs.notFatal
  | twisted ready => exact hs.moved ready (fun _ => twist_consistent s.buf) 0
  | untwisted ready => exact hs.moved ready (fun _ => untwist_consistent s.buf) s.cursor
  | predicted b c w ready keeps => exact (hs.moved ready keeps c).setRes w
  | moved b c ready keeps => exact hs.moved ready keeps c
  | stayed => exact hs

/-- Enough bits counted in DIRECT mode are enough words: a sound controller never raises
INVARIANT_VIOLATION (R32 (d)). -/
theorem EffectAnswers.not_invariantViolation {s : State} {i : Instr} {c : ResultCode}
    (h : EffectAnswers s i (.error c)) (hs : s.Sound) : c ≠ .invariantViolation := by
  rintro rfl
  obtain ⟨-, enough, direct, short⟩ := h.of_invariantViolation
  obtain ⟨p, ledger, fill⟩ := hs.countsAgree direct
  simp only [ledgerMax_eq, bufWords_eq] at ledger fill
  omega

/-- A completion with a code other than 2 turns soundness into the invariant (R108). -/
theorem State.Sound.complete {s : State} (h : s.Sound) {c : ResultCode}
    (harmless : c ≠ .invariantViolation) : (s.complete c).Inv := by
  refine (State.inv_iff _).mpr ⟨⟨h.readySound, h.cursorZero, h.countsAgree, h.unfilledZero, ?_⟩,
    c.code_le_six, ?_, fun _ => rfl⟩
  · simp [h.notFatal, harmless]
  · intro nonzero
    have : c ≠ .ok := mt ResultCode.code_eq_zero.mpr nonzero
    simp [this]

/-- A command keeps the invariant (R32). -/
theorem exec_keeps_inv {i : Instr} {s t : State} (hs : s.Sound) (h : exec i s = .next t) :
    t.Inv := by
  rcases exec_cases h with ⟨locked, -⟩ | ⟨-, c, answers, rfl⟩ | ⟨-, s', answers, rfl⟩
  · exact absurd (hs.notFatal.symm.trans locked) (by decide)
  · exact hs.complete (answers.not_invariantViolation hs)
  · exact (answers.keeps_sound hs).complete nofun

/-- An illegal word in flight keeps the invariant (R61). -/
theorem illegalCommand_keeps_inv {s : State} (hs : s.Sound) : (illegalCommand s).Inv := by
  rw [illegalCommand, runCommand_error hs.notFatal rfl]
  exact hs.complete nofun

/-- Soundness speaks of the controller alone. -/
theorem SameController.sound {s t : State} (same : SameController s t) (hs : s.Sound) :
    t.Sound where
  readySound := by
    simpa only [State.ReadySound, same.ready, same.fill, same.mode, same.ledger, same.buf]
      using hs.readySound
  cursorZero := by simpa only [same.ready, same.cursor] using hs.cursorZero
  countsAgree := by
    simpa only [State.CountsAgree, same.mode, same.ledger, same.fill] using hs.countsAgree
  unfilledZero := by simpa only [State.UnfilledZero, same.fill, same.buf] using hs.unfilledZero
  notFatal := same.fatal.trans hs.notFatal

/-- A bus access leaves no word in flight in an idle block: only a CMD write places one, and BUSY
rises with it (R37). -/
theorem busAccess_idle {s : State} (idle : s.busy = false → s.pending = 0) (a : Access) :
    (busAccess s a).busy = false → (busAccess s a).pending = 0 := by
  rcases busAccess_cases s a with ⟨r, h⟩ | ⟨r, v, h⟩ | h
  · rw [h, readRegister_frame]
    exact idle
  · rw [h]
    rcases writeRegister_cases s r v with ⟨-, -, hw⟩ | ⟨-, -, hw⟩ | ⟨-, -, hw⟩ | hw <;> rw [hw]
    · exact nofun
    all_goals exact idle
  · rw [h]
    exact idle

/-- A bus access keeps the invariant (R36 to R43). -/
theorem busAccess_keeps_inv {s : State} (hs : s.Inv) (a : Access) : (busAccess s a).Inv := by
  obtain ⟨sound, code, seen, idle⟩ := s.inv_iff.mp hs
  have same := busAccess_sameController s a
  refine (State.inv_iff _).mpr ⟨same.sound sound, ?_, ?_, busAccess_idle idle a⟩
  · rwa [same.err]
  · rwa [same.err, same.errSeen]

/-- A host's turn keeps the invariant (R123, R134). -/
theorem hostTurn_keeps_inv {s : State} (hs : s.Inv) : (hostTurn s).Inv := by
  have moved (rest : List HostEvent) : (s.hostMoved rest).Inv := hs
  rcases hostTurn_cases s with ⟨-, h⟩ | ⟨a, rest, -, h⟩ | ⟨rest, -, h⟩ | ⟨i, rest, -, h⟩ <;> rw [h]
  · exact hs
  · exact busAccess_keeps_inv (moved rest) a
  · exact busAccess_keeps_inv (moved _) pollAccess
  · rw [resetInput_frame]
    exact resetStateHasTheInvariant

/-- Settles O11: a command keeps the controller sound and ends with a code of the table, an illegal
word only reports, and the host's turn leaves the controller alone or resets it. -/
theorem everyStepKeepsTheInvariant : Obligations.EveryStepKeepsTheInvariant := by
  intro s t hs h
  have sound := (s.inv_iff.mp hs).1
  rcases step_cases s with ⟨-, i, -, hstep⟩ | ⟨-, -, hstep⟩ | ⟨-, hstep⟩ <;> rw [hstep] at h
  · exact exec_keeps_inv sound h
  · cases h
    exact illegalCommand_keeps_inv sound
  · cases h
    exact hostTurn_keeps_inv hs

/-! ### STATUS (R29) -/

/-- A one-bit field shows at its place and nowhere else. -/
theorem getLsbD_placed_ofBool (b : Bool) {low : Nat} (h : low < 32) (j : Nat) :
    (placed (BitVec.ofBool b) low).getLsbD j = (decide (j = low) && b) := by
  by_cases hj : j = low
  · subst hj
    simp [placed, h]
  · have outside : low ≤ j → j - low ≠ 0 := by omega
    simp +contextual [placed, hj, outside]

/-- A field placed at bit 0 shows as it is. -/
theorem getLsbD_placed_zero {n : Nat} (field : BitVec n) (h : n ≤ 32) (j : Nat) :
    (placed field 0).getLsbD j = field.getLsbD j := by
  have within (bit : field.getLsbD j = true) : j < 32 := (BitVec.lt_of_getLsbD bit).trans_le h
  simpa [placed] using within

/-- MODE as one bit (R23). -/
theorem Mode.bit_eq_ofBool (m : Mode) : m.bit = BitVec.ofBool (decide (m = .matrix)) := by
  cases m <;> rfl

/-- STATUS, bit by bit (R29). -/
theorem State.getLsbD_status (s : State) (j : Nat) :
    s.status.getLsbD j =
      (s.err.getLsbD j || decide (j = 4) && s.ready ||
        decide (j = 5) && decide (s.mode = .matrix) || decide (j = 6) && s.full ||
        decide (j = 7) && s.fatal || decide (j = 8) && s.errSeen || decide (j = 9) && s.busy) := by
  simp (disch := decide) only [State.status, Mode.bit_eq_ofBool, BitVec.getLsbD_or,
    getLsbD_placed_zero, getLsbD_placed_ofBool]

/-- Settles O55: STATUS bit by bit, and the counters below 2^32. -/
theorem statusShowsItsFields : Obligations.StatusShowsItsFields := by
  intro s
  have above (j : Nat) (hj : 4 ≤ j) : s.err.getLsbD j = false := BitVec.getLsbD_of_ge _ _ hj
  have low : s.status.extractLsb' 0 4 = s.err := by
    apply BitVec.eq_of_getLsbD_eq
    intro j hj
    simp (disch := omega) only [BitVec.getLsbD_extractLsb', Nat.zero_add, hj, s.getLsbD_status,
      decide_eq_false, decide_true, Bool.true_and, Bool.false_and, Bool.or_false]
  have high (j : Nat) (hj : 10 ≤ j) : s.status.getLsbD j = false := by
    simp (disch := omega) [s.getLsbD_status, decide_eq_false]
  have fill := s.fill.isLt
  have cursor := s.cursor.isLt
  refine ⟨low, ?ready, ?mode, ?full, ?fatal, ?errSeen, ?busy, high, ?fill, ?cursor, rfl⟩
  case ready | mode | full | fatal | errSeen | busy =>
    rw [s.getLsbD_status, above _ (by decide)]
    simp [State.full]
  case fill | cursor =>
    simp only [Register.value, BitVec.toNat_ofNat]
    omega

end Sys2Proof.Machine
end

section
/-! The statements on the bus: the lanes and the window, what each access answers, and what a host's
turn leaves alone. -/

namespace Sys2Proof.Machine

/-! ### The byte lanes and the window (R42, R34, R45) -/

/-- Bit j of lane b is bit 8b + j of the word (R42). -/
theorem getLsbD_lane (w : Word) (b : Fin 4) {j : Nat} (hj : j < 8) :
    (lane w b).getLsbD j = w.getLsbD (8 * b.val + j) := by
  simp [lane, hj]

/-- A lane put back at its place gives the word's bits there, and no others. -/
theorem getLsbD_placed_lane (w : Word) (b : Fin 4) {low j : Nat} (place : low = 8 * b.val)
    (hj : j < 32) :
    (placed (lane w b) low).getLsbD j = (decide (j / 8 = b.val) && w.getLsbD j) := by
  by_cases inLane : j / 8 = b.val
  · have above : low ≤ j := by omega
    have bit : (lane w b).getLsbD (j - low) = w.getLsbD j := by
      rw [getLsbD_lane w b (by omega), ← place, Nat.add_sub_cancel' above]
    simp [placed, hj, inLane, above, bit]
  · have clear (above : low ≤ j) : (lane w b).getLsbD (j - low) = false :=
      BitVec.getLsbD_of_ge _ _ (by omega)
    simp +contextual [placed, inLane, clear]

/-- Settles O59: every bit of the word lies in the one lane j / 8. -/
theorem lanesAreLittleEndian : Obligations.LanesAreLittleEndian := by
  refine ⟨fun w b j hj => getLsbD_lane w b hj, fun w => BitVec.eq_of_getLsbD_eq fun j hj => ?_⟩
  have inSomeLane : j / 8 = 0 ∨ j / 8 = 1 ∨ j / 8 = 2 ∨ j / 8 = 3 := by omega
  rw [ofLanes, BitVec.getLsbD_or, BitVec.getLsbD_or, BitVec.getLsbD_or,
    getLsbD_placed_lane (low := 0) w 0 rfl hj, getLsbD_placed_lane (low := 8) w 1 rfl hj,
    getLsbD_placed_lane (low := 16) w 2 rfl hj, getLsbD_placed_lane (low := 24) w 3 rfl hj]
  rcases inSomeLane with h | h | h | h <;> simp [h]

/-- Settles O60: BASE is a page of 8192, and the decoding subtracts it inside that page only. -/
theorem windowIsEightKibAtBase : Obligations.WindowIsEightKibAtBase := by
  refine ⟨Nat.mul_mod_right _ _, fun off hoff => ?_, fun addr outside => ?_⟩
  · rw [windowOffset, if_pos (by omega), Nat.add_sub_cancel_left]
  · refine if_neg fun ⟨low, high⟩ => ?_
    exact outside (addr - Config.base) (by omega) (by omega)

/-! ### The register map (R35, R40, R43) -/

/-- The words of BUF lie from 0x1000 on, four bytes apart (R36). -/
theorem Register.buf_offset_toNat (k : Fin 624) :
    (Register.buf k).offset.toNat = 0x1000 + 4 * k.val := by
  simp only [Register.offset, BitVec.toNat_ofNat]
  omega

/-- The map answers each register at its own offset, and nowhere else (R35). -/
theorem registerAt_eq_some_iff {off : Nat} {r : Register} :
    registerAt off = some r ↔ off = r.offset.toNat := by
  cases r with
  | buf k =>
    rw [Register.buf_offset_toNat]
    simp only [registerAt, ite_eq_iff, Option.some.injEq, reduceCtorEq, Register.buf.injEq,
      Fin.ext_iff, Fin.val_ofNat, and_false, false_or, or_false]
    omega
  | _ =>
    simp only [registerAt, ite_eq_iff, Option.some.injEq, reduceCtorEq, Register.offset,
      BitVec.reduceToNat, and_true, and_false, false_or, or_false]
    omega

/-- An access reaches a register only if it is 32 bits wide and at that register's offset (R35,
R43). -/
theorem target_eq_some_iff {offset : BitVec 13} {bits : Nat} {r : Register} :
    target offset bits = some r ↔ bits = 32 ∧ offset = r.offset := by
  simp [target, registerAt_eq_some_iff, BitVec.toNat_inj]

/-- Every register is aligned, and lies outside the reserved offsets (R35, R40, R43). -/
theorem Register.offset_bounds (r : Register) :
    r.offset.toNat % 4 = 0 ∧ r.offset.toNat < 0x19C0 ∧
      (r.offset.toNat < 0x024 ∨ 0xFFC < r.offset.toNat) := by
  cases r with
  | buf k =>
    rw [Register.buf_offset_toNat]
    omega
  | _ => decide

/-- A misaligned or reserved offset, or another width, reaches no register (R40, R43). -/
theorem target_eq_none {offset : BitVec 13} {bits : Nat}
    (h : bits ≠ 32 ∨ offset.toNat % 4 ≠ 0 ∨ (0x024 ≤ offset.toNat ∧ offset.toNat ≤ 0xFFC) ∨
      0x19C0 ≤ offset.toNat) : target offset bits = none := by
  refine Option.eq_none_iff_forall_not_mem.mpr fun r hr => ?_
  obtain ⟨rfl, rfl⟩ := target_eq_some_iff.mp hr
  have bounds := r.offset_bounds
  omega

/-- With BUSY = 0 a write of CMD issues the word (R37). -/
theorem writeRegister_cmd {s : State} (idle : s.busy = false) (w : Word) :
    writeRegister s .cmd w = (s.issue w).respond .ok := by
  simp [writeRegister, idle]

/-- With BUSY = 0 a write of OPA stores the word (R38). -/
theorem writeRegister_opa {s : State} (idle : s.busy = false) (v : Word) :
    writeRegister s .opa v = (s.setOpa v).respond .ok := by
  simp [writeRegister, idle]

/-- With BUSY = 0 a write of OPB stores the word (R38). -/
theorem writeRegister_opb {s : State} (idle : s.busy = false) (v : Word) :
    writeRegister s .opb v = (s.setOpb v).respond .ok := by
  simp [writeRegister, idle]

/-- A register beside CMD, OPA and OPB takes no write (R36, R39). -/
theorem writeRegister_readOnly (s : State) {r : Register} (v : Word)
    (h : r.offset.toNat = 0x000 ∨ 0x010 ≤ r.offset.toNat) :
    writeRegister s r v = s.respond .busErr := by
  rcases writeRegister_cases s r v with ⟨-, rfl, -⟩ | ⟨-, rfl, -⟩ | ⟨-, rfl, -⟩ | refused
  case inr.inr.inr => exact refused
  all_goals exact absurd h (by decide)

/-! ### What one access does (R36 to R43) -/

/-- A read that reaches no register is refused (R40, R43). -/
theorem busAccess_read_none (s : State) {offset : BitVec 13} {bits : Nat}
    (h : target offset bits = none) : busAccess s (.read offset bits) = s.respond .busErr := by
  simp [busAccess, h]

/-- A write that reaches no register is refused (R40, R43). -/
theorem busAccess_write_none (s : State) {offset : BitVec 13} {bits : Nat} (v : Word)
    (h : target offset bits = none) : busAccess s (.write offset bits v) = s.respond .busErr := by
  simp [busAccess, h]

/-- A write that reaches a register is that register's write (R35, R36). -/
theorem busAccess_write (s : State) (r : Register) (v : Word) :
    busAccess s (.write r.offset 32 v) = writeRegister s r v := by
  simp [busAccess, target_eq_some_iff.mpr ⟨rfl, rfl⟩]

/-- A 32-bit write at the read-only offsets is refused (R39). -/
theorem busAccess_write_readOnly (s : State) {offset : BitVec 13} (v : Word)
    (h : offset.toNat = 0x000 ∨ 0x010 ≤ offset.toNat) :
    busAccess s (.write offset 32 v) = s.respond .busErr := by
  cases ht : target offset 32 with
  | none => exact busAccess_write_none s v ht
  | some r =>
    obtain ⟨-, rfl⟩ := target_eq_some_iff.mp ht
    rw [busAccess_write, writeRegister_readOnly s v h]

/-- What a 32-bit read answers with BUSY = 0: the word of the register it reaches, or BUSERR (R35,
R40). -/
def State.idleAnswer (s : State) : Option Register → Response
  | some r => .data (r.value s)
  | none => .busErr

/-- A read with BUSY = 0 changes nothing but the response (R36, R44 (b)). -/
theorem busAccess_read_idle {s : State} (h : s.busy = false) (offset : BitVec 13) :
    busAccess s (.read offset 32) = s.respond (s.idleAnswer (registerAt offset.toNat)) := by
  cases hr : registerAt offset.toNat <;>
    simp [busAccess, target, State.idleAnswer, readRegister, h, hr]

/-- Everything a bus access can do to OPA, OPB, BUSY and the word in flight: the three writes do, and
any other access changes only the response and the count of draws (R36 to R39, R44 (b)). -/
theorem busAccess_writes (s : State) (a : Access) :
    (∃ w, s.busy = false ∧ a = .write 0x004 32 w ∧ busAccess s a = (s.issue w).respond .ok) ∨
      (∃ v, s.busy = false ∧ a = .write 0x008 32 v ∧ busAccess s a = (s.setOpa v).respond .ok) ∨
      (∃ v, s.busy = false ∧ a = .write 0x00C 32 v ∧ busAccess s a = (s.setOpb v).respond .ok) ∨
      ∃ r d, busAccess s a = { s with response := r, draws := d } := by
  cases a with
  | read offset bits =>
    refine .inr (.inr (.inr ?_))
    cases ht : target offset bits with
    | none => exact ⟨_, _, busAccess_read_none s ht⟩
    | some r => exact ⟨_, _, by simpa [busAccess, ht] using readRegister_frame s r⟩
  | write offset bits v =>
    cases ht : target offset bits with
    | none => exact .inr (.inr (.inr ⟨_, _, busAccess_write_none s v ht⟩))
    | some r =>
      obtain ⟨rfl, rfl⟩ := target_eq_some_iff.mp ht
      rw [busAccess_write]
      rcases writeRegister_cases s r v with
        ⟨idle, rfl, h⟩ | ⟨idle, rfl, h⟩ | ⟨idle, rfl, h⟩ | h
      · exact .inl ⟨v, idle, rfl, h⟩
      · exact .inr (.inl ⟨v, idle, rfl, h⟩)
      · exact .inr (.inr (.inl ⟨v, idle, rfl, h⟩))
      · exact .inr (.inr (.inr ⟨_, _, h⟩))

/-! ### The step that performs an access (R134) -/

/-- While no command is due to complete, the step performs the host's next access. -/
theorem step_access {s : State} {a : Access} {rest : List HostEvent}
    (next : s.inputs = .access a :: rest) (turn : s.busy = false ∨ s.latency ≠ 0) :
    step s = .next (busAccess (s.hostMoved rest) a) := by
  have host : sequencerTurn s = false := by
    rcases turn with h | h <;> simp [sequencerTurn, next, h]
  simp [step, host, hostTurn, next]

/-- The step of a write that reaches a register. -/
theorem step_write {s : State} {v : Word} {rest : List HostEvent} (r : Register)
    (next : s.inputs = .access (.write r.offset 32 v) :: rest)
    (turn : s.busy = false ∨ s.latency ≠ 0) :
    step s = .next (writeRegister (s.hostMoved rest) r v) := by
  rw [step_access next turn, busAccess_write]

/-- A write in the host's turn is refused while BUSY = 1 (R37, R38). -/
theorem step_write_busy {s : State} {v : Word} {rest : List HostEvent} (r : Register)
    (next : s.inputs = .access (.write r.offset 32 v) :: rest) (busy : s.busy = true)
    (turn : s.latency ≠ 0) : step s = .next ((s.hostMoved rest).respond .busErr) := by
  rw [step_write r next (.inr turn), writeRegister_busy (s := s.hostMoved rest) busy]

/-- Settles O49: the step is the write of CMD, which issues the word or is refused. -/
theorem cmdWriteIssuesOneCommand : Obligations.CmdWriteIssuesOneCommand := by
  intro s w rest next
  refine ⟨fun idle => ⟨Config.freeLatency s.draws, ?_⟩, step_write_busy .cmd next⟩
  rw [step_write .cmd next (.inl idle), writeRegister_cmd (s := s.hostMoved rest) idle]
  rfl

/-- Settles O50: the step is the write of OPA or OPB, which stores the word or is refused. -/
theorem operandWritesStoreOnlyWhenIdle : Obligations.OperandWritesStoreOnlyWhenIdle := by
  refine fun s v rest => ⟨fun next idle => ?_, fun next idle => ?_, ?_⟩
  · rw [step_write .opa next (.inl idle), writeRegister_opa (s := s.hostMoved rest) idle]
    rfl
  · rw [step_write .opb next (.inl idle), writeRegister_opb (s := s.hostMoved rest) idle]
    rfl
  · rintro (next | next)
    · exact step_write_busy .opa next
    · exact step_write_busy .opb next

/-- The host's move does not show in what a read answers. -/
theorem State.idleAnswer_hostMoved (s : State) (rest : List HostEvent) (o : Option Register) :
    (s.hostMoved rest).idleAnswer o = s.idleAnswer o := by
  rcases o with _ | r
  · rfl
  · cases r <;> rfl

/-- The word of BUF that the map gives an index is the one at that index (R36). -/
theorem State.idleAnswer_buf (s : State) (k : Nat) :
    s.idleAnswer (some (.buf (Fin.ofNat 624 k))) = .data (s.buf.word k) :=
  congrArg Response.data (s.buf.word_mod k)

/-- Settles O51: the step is a read with BUSY = 0, and its answer is the map's, offset by offset. -/
theorem idleReadsFollowTheRegisterMap : Obligations.IdleReadsFollowTheRegisterMap := by
  intro s offset rest idle next
  rw [step_access next (.inl idle), busAccess_read_idle (s := s.hostMoved rest) idle,
    s.idleAnswer_hostMoved]
  suffices answer : s.idleAnswer (registerAt offset.toNat) = _ by
    rw [answer]
    rfl
  by_cases aligned : offset.toNat % 4 = 0
  · simp only [registerAt, aligned, apply_ite s.idleAnswer, s.idleAnswer_buf, ne_eq,
      not_true_eq_false, if_false, and_true]
    rfl
  · have missing : registerAt offset.toNat = none := by simp [registerAt, aligned]
    rw [missing]
    simp (disch := omega) only [if_neg, State.idleAnswer]

/-- Settles O52: such an access reaches no register, or one that takes no write. -/
theorem refusedAccessesHaveNoEffect : Obligations.RefusedAccessesHaveNoEffect := by
  intro s a rest next turn h
  rw [step_access next turn]
  rcases h with ⟨offset, bits, v, rfl | rfl, unreached⟩ | ⟨offset, v, rfl, readOnly⟩
  · exact congrArg _ (busAccess_read_none _ (target_eq_none unreached))
  · exact congrArg _ (busAccess_write_none _ v (target_eq_none unreached))
  · exact congrArg _ (busAccess_write_readOnly _ v readOnly)

/-- Everything a host's turn without the reset input can do: the three writes, or nothing but to the
model's own fields (R36 to R39, R44 (b)). -/
theorem hostTurn_writes {s : State} (noReset : ∀ i rest, s.inputs ≠ .reset i :: rest) :
    (∃ w rest, s.busy = false ∧ s.inputs = .access (.write 0x004 32 w) :: rest ∧
        hostTurn s = ((s.hostMoved rest).issue w).respond .ok) ∨
      (∃ v rest, s.busy = false ∧ s.inputs = .access (.write 0x008 32 v) :: rest ∧
        hostTurn s = ((s.hostMoved rest).setOpa v).respond .ok) ∨
      (∃ v rest, s.busy = false ∧ s.inputs = .access (.write 0x00C 32 v) :: rest ∧
        hostTurn s = ((s.hostMoved rest).setOpb v).respond .ok) ∨
      ∃ i n r d, hostTurn s = { s with inputs := i, latency := n, response := r, draws := d } := by
  rcases hostTurn_cases s with
    ⟨-, h⟩ | ⟨a, rest, next, h⟩ | ⟨rest, -, h⟩ | ⟨i, rest, next, -⟩
  · exact .inr (.inr (.inr ⟨_, _, _, _, h⟩))
  · rcases busAccess_writes (s.hostMoved rest) a with
      ⟨w, idle, rfl, ha⟩ | ⟨v, idle, rfl, ha⟩ | ⟨v, idle, rfl, ha⟩ | ⟨r, d, ha⟩
    · exact .inl ⟨w, rest, idle, next, h.trans ha⟩
    · exact .inr (.inl ⟨v, rest, idle, next, h.trans ha⟩)
    · exact .inr (.inr (.inl ⟨v, rest, idle, next, h.trans ha⟩))
    · exact .inr (.inr (.inr ⟨_, _, _, _, h.trans ha⟩))
  · exact .inr (.inr (.inr ⟨_, _, _, _, h.trans (readRegister_frame _ .status)⟩))
  · exact absurd next (noReset i rest)

/-- No host's turn without the reset input writes the controller's state (R36 to R44). -/
theorem hostTurn_sameController {s : State} (noReset : ∀ i rest, s.inputs ≠ .reset i :: rest) :
    SameController s (hostTurn s) := by
  rcases hostTurn_writes noReset with
    ⟨_, _, -, -, h⟩ | ⟨_, _, -, -, h⟩ | ⟨_, _, -, -, h⟩ | ⟨_, _, _, _, h⟩ <;>
    rw [h] <;> constructor <;> rfl

/-- Settles O56: only the writes of CMD, OPA and OPB change any of these fields, each its own. -/
theorem busAccessesLeaveTheControllerAlone : Obligations.BusAccessesLeaveTheControllerAlone := by
  intro s t turn noReset h
  obtain rfl : hostTurn s = t := by simpa [step, turn] using h
  refine ⟨hostTurn_sameController noReset, ?_⟩
  rcases hostTurn_writes noReset with
    ⟨w, rest, idle, next, ht⟩ | ⟨v, rest, idle, next, ht⟩ | ⟨v, rest, idle, next, ht⟩ |
      ⟨i, n, r, d, ht⟩ <;> rw [ht]
  · exact ⟨absurd rfl, absurd rfl, fun _ => ⟨rfl, w, rest, next⟩,
      fun busy => absurd busy (by simp [idle])⟩
  · exact ⟨fun _ => ⟨idle, v, rest, next⟩, absurd rfl, absurd rfl, fun _ => rfl⟩
  · exact ⟨absurd rfl, fun _ => ⟨idle, v, rest, next⟩, absurd rfl, fun _ => rfl⟩
  · exact ⟨absurd rfl, absurd rfl, absurd rfl, fun _ => rfl⟩

end Sys2Proof.Machine
end

section
/-! The statements on the encoding: the four formats as one layout of fixed bits and a field, the
opcode map row by row, and the two directions between a command and its word. -/

namespace Sys2Proof.Machine

/-! ### A field at its place in a word (R53 to R57) -/

/-- Bit j of a placed field is the field's bit j - low, and 0 below it. -/
theorem getLsbD_placed {n : Nat} (field : BitVec n) (low j : Nat) :
    (placed field low).getLsbD j = (decide (low ≤ j ∧ j < 32) && field.getLsbD (j - low)) := by
  by_cases above : low ≤ j <;> by_cases inside : j < 32 <;> simp [placed, above, inside]

/-- A field reads back from its place. -/
theorem extractLsb'_placed_same {n low : Nat} (field : BitVec n) (fits : low + n ≤ 32) :
    (placed field low).extractLsb' low n = field := by
  apply BitVec.eq_of_getLsbD_eq
  intro j hj
  simp only [BitVec.getLsbD_extractLsb', getLsbD_placed]
  grind

/-- Bits apart from a field's place read as 0. -/
theorem extractLsb'_placed_apart {n low p k : Nat} (field : BitVec n)
    (apart : p + k ≤ low ∨ low + n ≤ p) : (placed field low).extractLsb' p k = 0 := by
  apply BitVec.eq_of_getLsbD_eq
  intro j hj
  have outside (_ : low + n ≤ p) : field.getLsbD (p + j - low) = false :=
    BitVec.getLsbD_of_ge _ _ (by omega)
  simp only [BitVec.getLsbD_extractLsb', getLsbD_placed]
  grind

/-! ### The mask of a format (R54 to R57) -/

/-- The mask of a format whose field is the n bits from `low` on: every other bit is fixed. -/
def allBut (n low : Nat) : Word := ~~~placed (BitVec.allOnes n) low

/-- Format N has no field (R54). -/
theorem maskN_eq : maskN = allBut 0 0 := rfl

/-- The field of format S is SH (R55). -/
theorem maskS_eq : maskS = allBut 5 16 := rfl

/-- The field of format W is W (R56). -/
theorem maskW_eq : maskW = allBut 16 0 := rfl

/-- The field of format F is FM (R57). -/
theorem maskF_eq : maskF = allBut 1 0 := rfl

section
variable {n low : Nat} {w : Word} {opc : BitVec 8}

/-- The mask clears the field's bits and keeps every other bit. -/
theorem getLsbD_and_allBut (w : Word) (n low j : Nat) :
    (w &&& allBut n low).getLsbD j = (w.getLsbD j && !decide (low ≤ j ∧ j < low + n)) := by
  have inside (bit : w.getLsbD j = true) : j < 32 := BitVec.lt_of_getLsbD bit
  simp only [allBut, BitVec.getLsbD_and, BitVec.getLsbD_not, getLsbD_placed, BitVec.getLsbD_allOnes]
  grind

/-- A word is its fixed bits and its field. -/
theorem and_allBut_or_field (w : Word) (n low : Nat) :
    w &&& allBut n low ||| placed (w.extractLsb' low n) low = w := by
  apply BitVec.eq_of_getLsbD_eq
  intro j hj
  simp only [BitVec.getLsbD_or, getLsbD_and_allBut, getLsbD_placed, BitVec.getLsbD_extractLsb']
  grind

/-- The fixed bits of a word are OPC and the reserved bits above and below the field. -/
theorem and_allBut_eq_fields (fits : low + n ≤ 24) (w : Word) :
    w &&& allBut n low =
      placed (opcField w) 24 |||
        placed (w.extractLsb' (low + n) (24 - (low + n))) (low + n) |||
          placed (w.extractLsb' 0 low) 0 := by
  apply BitVec.eq_of_getLsbD_eq
  intro j hj
  simp only [opcField, BitVec.getLsbD_or, getLsbD_and_allBut, getLsbD_placed,
    BitVec.getLsbD_extractLsb']
  grind

/-- The mask does not show in bits apart from the field. -/
theorem extractLsb'_and_allBut {p k : Nat} (apart : p + k ≤ low ∨ low + n ≤ p) :
    (w &&& allBut n low).extractLsb' p k = w.extractLsb' p k := by
  apply BitVec.eq_of_getLsbD_eq
  intro j hj
  simp only [BitVec.getLsbD_extractLsb', getLsbD_and_allBut]
  grind

/-- The fixed bits are those of an opcode exactly where OPC is that opcode and no reserved bit is
1 (R53). -/
theorem and_allBut_eq_iff (fits : low + n ≤ 24) :
    w &&& allBut n low = placed opc 24 ↔
      opcField w = opc ∧ w.extractLsb' (low + n) (24 - (low + n)) = 0 ∧
        w.extractLsb' 0 low = 0 := by
  constructor
  · intro selected
    have fixed {p k : Nat} (apart : p + k ≤ low ∨ low + n ≤ p) :
        w.extractLsb' p k = (placed opc 24).extractLsb' p k := by
      rw [← selected, extractLsb'_and_allBut apart]
    refine ⟨?_, ?_, ?_⟩
    · rw [opcField, fixed (by omega), extractLsb'_placed_same _ (by omega)]
    · rw [fixed (by omega), extractLsb'_placed_apart _ (by omega)]
    · rw [fixed (by omega), extractLsb'_placed_apart _ (by omega)]
  · rintro ⟨opcode, above, below⟩
    rw [and_allBut_eq_fields fits, opcode, above, below]
    simp [placed]

/-- The word of an opcode and a field is the one word with these fixed bits and this field. -/
theorem placed_or_placed_eq_iff (fits : low + n ≤ 24) (field : BitVec n) :
    placed opc 24 ||| placed field low = w ↔
      w &&& allBut n low = placed opc 24 ∧ w.extractLsb' low n = field := by
  constructor
  · rintro rfl
    rw [and_allBut_eq_iff fits]
    simp (disch := omega) [opcField, BitVec.extractLsb'_or, extractLsb'_placed_same,
      extractLsb'_placed_apart]
  · rintro ⟨selected, rfl⟩
    rw [← selected, and_allBut_or_field]

/-! ### The words of each format (R54 to R57) -/

/-- The word of format N is the one its row selects (R54). -/
theorem formatN_eq_iff : formatN opc = w ↔ w &&& maskN = placed opc 24 := by
  rw [show maskN = BitVec.allOnes 32 from rfl, BitVec.and_allOnes, formatN, eq_comm]

/-- A word of format S is one its row selects, with SH as its field (R55). -/
theorem formatS_eq_iff {sh : Nat} :
    ShiftFits sh ∧ formatS opc sh = w ↔ w &&& maskS = placed opc 24 ∧ sh = shField w := by
  rw [formatS, placed_or_placed_eq_iff (by decide), ← maskS_eq, and_left_comm, shField,
    BitVec.nat_eq_toNat]

/-- A word of format W is one its row selects, with W as its field (R56). -/
theorem formatW_eq_iff {width : Nat} :
    WidthFits width ∧ formatW opc width = w ↔
      w &&& maskW = placed opc 24 ∧ width = wField w := by
  rw [formatW, placed_or_placed_eq_iff (by decide), ← maskW_eq, and_left_comm, wField,
    BitVec.nat_eq_toNat]

/-- A word of format F is one its row selects, with FM as its field (R57). -/
theorem formatF_eq_iff {fm : Bool} :
    formatF opc fm = w ↔ w &&& maskF = placed opc 24 ∧ fm = fmField w := by
  have flag : w.extractLsb' 0 1 = BitVec.ofBool fm ↔ fm = fmField w := by
    rw [BitVec.eq_of_getLsbD_eq_iff]
    simp [fmField, eq_comm]
  rw [formatF, placed_or_placed_eq_iff (by decide), ← maskF_eq, flag]

variable {p : Word}

/-- A row of format N selects its opcode without a reserved bit (R54). -/
theorem and_maskN_eq_iff (bare : placed (opcField p) 24 = p) :
    w &&& maskN = p ↔ opcField w = opcField p ∧ w.extractLsb' 0 24 = 0 := by
  rw [← bare, maskN_eq, and_allBut_eq_iff (by decide), bare]
  simp

/-- A row of format S selects its opcode without a reserved bit (R55). -/
theorem and_maskS_eq_iff (bare : placed (opcField p) 24 = p) :
    w &&& maskS = p ↔
      opcField w = opcField p ∧ w.extractLsb' 21 3 = 0 ∧ w.extractLsb' 0 16 = 0 := by
  rw [← bare, maskS_eq, and_allBut_eq_iff (by decide), bare]

/-- A row of format W selects its opcode without a reserved bit (R56). -/
theorem and_maskW_eq_iff (bare : placed (opcField p) 24 = p) :
    w &&& maskW = p ↔ opcField w = opcField p ∧ w.extractLsb' 16 8 = 0 := by
  rw [← bare, maskW_eq, and_allBut_eq_iff (by decide), bare]
  simp

/-- A row of format F selects its opcode without a reserved bit (R57). -/
theorem and_maskF_eq_iff (bare : placed (opcField p) 24 = p) :
    w &&& maskF = p ↔ opcField w = opcField p ∧ w.extractLsb' 1 23 = 0 := by
  rw [← bare, maskF_eq, and_allBut_eq_iff (by decide), bare]
  simp

end

/-! ### The opcode map (R59, R60) -/

/-- Every mask covers bits [31:24], so a row selects words of its own opcode only (R59). -/
theorem opcField_of_selects {w : Word} {r : OpcodeRow} (mem : r ∈ opcodeMap)
    (selected : r.selects w = true) : opcField w = opcField r.pattern := by
  have covered : ∀ r ∈ opcodeMap, opcField r.mask = BitVec.allOnes 8 := by decide
  calc opcField w = opcField w &&& opcField r.mask := by rw [covered r mem, BitVec.and_allOnes]
    _ = opcField (w &&& r.mask) := BitVec.extractLsb'_and.symm
    _ = opcField r.pattern := congrArg opcField (beq_iff_eq.mp selected)

/-- At most one row selects a word, since the rows differ in bits [31:24] (R59). -/
theorem eq_of_selects {w : Word} {r r' : OpcodeRow} (mem : r ∈ opcodeMap) (mem' : r' ∈ opcodeMap)
    (selected : r.selects w = true) (selected' : r'.selects w = true) : r = r' := by
  have differ : (opcodeMap.map fun r => opcField r.pattern).Nodup := by decide
  refine List.inj_on_of_nodup_map differ mem mem' ?_
  rw [← opcField_of_selects mem selected, opcField_of_selects mem' selected']

/-- A word is illegal exactly where no row selects it (R60). -/
theorem decode_error_iff {w : Word} :
    (∃ e, decode w = .error e) ↔ ¬∃ r ∈ opcodeMap, r.selects w = true := by
  have missing : (¬∃ r ∈ opcodeMap, r.selects w = true) ↔
      opcodeMap.find? (·.selects w) = none := by simp
  rw [missing, decode]
  split
  next r found => simp [found]
  next none =>
    simp only [none, iff_true]
    split <;> exact ⟨_, rfl⟩

/-- A word decodes to what the row that selects it reads from it (R60). -/
theorem decode_eq_ok_iff {w : Word} {i : Instr} :
    decode w = .ok i ↔ ∃ r ∈ opcodeMap, r.selects w = true ∧ r.build w = i := by
  have read {r : OpcodeRow} (mem : r ∈ opcodeMap) (selected : r.selects w = true) :
      decode w = .ok (r.build w) := by
    obtain ⟨r', found⟩ : ∃ r', opcodeMap.find? (·.selects w) = some r' :=
      Option.isSome_iff_exists.mp (List.find?_isSome.mpr ⟨r, mem, selected⟩)
    have selected' : r'.selects w = true :=
      List.find?_some (p := fun r : OpcodeRow => r.selects w) found
    obtain rfl := eq_of_selects mem (List.mem_of_find?_eq_some found) selected selected'
    simp [decode, found]
  constructor
  · intro decoded
    obtain ⟨r, mem, selected⟩ : ∃ r ∈ opcodeMap, r.selects w = true := by
      by_contra missing
      obtain ⟨e, refused⟩ := decode_error_iff.mpr missing
      simp [refused] at decoded
    exact ⟨r, mem, selected, Except.ok.inj ((read mem selected).symm.trans decoded)⟩
  · rintro ⟨r, mem, selected, rfl⟩
    exact read mem selected

/-- Settles O3: the decoder's list, row by row, and no two rows for one word. -/
theorem decodeIsTheOpcodeMap : Obligations.DecodeIsTheOpcodeMap := by
  refine ⟨fun w i => ?_, fun w r mem r' mem' selected selected' => ?_⟩
  · simp only [decode_eq_ok_iff, opcodeMap, List.mem_cons, List.not_mem_nil, or_false,
      exists_eq_or_imp, exists_eq_left, OpcodeRow.selects, beq_iff_eq, @eq_comm _ i]
    rfl
  · obtain rfl := eq_of_selects mem mem' selected selected'
    exact ⟨rfl, rfl⟩

/-! ### A command and its word (R54 to R59) -/

/-- A word decodes to a command exactly where the command is well-formed and the word is its word:
of the rows only the command's own can read it, and that row's format gives the word. -/
theorem decode_eq_ok_iff_encode {w : Word} {i : Instr} :
    decode w = .ok i ↔ i.WellFormed ∧ encode i = w := by
  rw [decodeIsTheOpcodeMap.1]
  cases i with
  | shl | shr | xshr | xshl | ixshr | ixshl =>
    simp only [reduceCtorEq, and_false, false_or, or_false, Instr.shl.injEq, Instr.shr.injEq,
      Instr.xshl.injEq, Instr.xshr.injEq, Instr.ixshl.injEq, Instr.ixshr.injEq, Instr.WellFormed,
      Instr.wellFormed, decide_eq_true_eq, encode, formatS_eq_iff, Instr.opcode]
    rfl
  | submitp =>
    simp only [reduceCtorEq, and_false, false_or, or_false, Instr.submitp.injEq, Instr.WellFormed,
      Instr.wellFormed, decide_eq_true_eq, encode, formatW_eq_iff, Instr.opcode]
    rfl
  | check =>
    simp only [reduceCtorEq, and_false, false_or, or_false, Instr.check.injEq, Instr.WellFormed,
      Instr.wellFormed, true_and, encode, formatF_eq_iff, Instr.opcode]
    rfl
  | _ =>
    simp only [reduceCtorEq, and_false, false_or, or_false, and_true, Instr.WellFormed,
      Instr.wellFormed, true_and, encode, formatN_eq_iff, Instr.opcode]
    rfl

/-- Settles O1: the word of a well-formed command decodes to it. -/
theorem commandWordsDecodeBack : Obligations.CommandWordsDecodeBack :=
  fun _ wellFormed => decode_eq_ok_iff_encode.mpr ⟨wellFormed, rfl⟩

/-- Settles O2: only the word of a well-formed command decodes to it. -/
theorem decodedWordsEncodeBack : Obligations.DecodedWordsEncodeBack :=
  fun _ _ => decode_eq_ok_iff_encode.mp

/-- Settles O5: the decoder evaluates on the eight words. -/
theorem writtenOutWordsDecode : Obligations.WrittenOutWordsDecode :=
  ⟨rfl, rfl, rfl, rfl, rfl, rfl, rfl, rfl⟩

/-! ### The illegal words (R61) -/

/-- An illegal word in the sequencer's turn completes with code 4 and has no other effect (R60). -/
theorem step_of_illegal {s : State} {e : IllegalWord} (notFatal : s.fatal = false)
    (turn : sequencerTurn s = true) (refused : decode s.pending = .error e) :
    step s = .next (s.complete .illegalCommand) := by
  rw [← runCommand_error (effect := fun _ => .error .illegalCommand) notFatal rfl]
  simp [step, turn, fetch, refused, illegalCommand]

/-- Settles O4: no row selects the word, read opcode by opcode; in flight it is an illegal
command. -/
theorem illegalWordsOnlyReportCodeFour : Obligations.IllegalWordsOnlyReportCodeFour := by
  refine ⟨fun w => ?_, fun s notFatal turn ⟨e, refused⟩ => ?_⟩
  · simp (disch := decide) only [decode_error_iff, opcodeMap, List.mem_cons, List.not_mem_nil,
      or_false, exists_eq_or_imp, exists_eq_left, OpcodeRow.selects, beq_iff_eq, and_maskN_eq_iff,
      and_maskS_eq_iff, and_maskW_eq_iff, and_maskF_eq_iff, opcField, BitVec.reduceExtractLsb']
    simp only [ne_eq, ← BitVec.toNat_inj, BitVec.reduceToNat]
    generalize (w.extractLsb' 24 8).toNat = opc
    rcases lt_or_ge opc 66 with listed | above
    · interval_cases opc <;> simp [imp_iff_not_or]
    · omega
  · refine ⟨_, step_of_illegal notFatal turn refused, ?_⟩
    rw [s.complete_of_ne_ok (c := .illegalCommand) (by decide)]
    simp [State.failed, ResultCode.code]

end Sys2Proof.Machine
end

section
/-! The statements on the step and the run of a command line: a step in the sequencer's turn is the
decoded command, and a command does not see the host's side of the state. -/

namespace Sys2Proof.Machine

/-! ### The sequencer's turn (R60, R108, R134) -/

/-- In the sequencer's turn a step runs the command the word in flight decodes to (R108). -/
theorem step_of_decode {s : State} {i : Instr} (turn : sequencerTurn s = true)
    (decoded : decode s.pending = .ok i) : step s = exec i s := by
  simp [step, turn, fetch, decoded]

/-- The host's entry to the decoder reads the word that placing it puts in flight (R52). -/
theorem decode_of_decodeTableWord {nbits w : Nat} {i : Instr}
    (read : decodeTableWord nbits w = some i) :
    decode (BitVec.ofNat 32 (w % 2 ^ nbits)) = .ok i := by
  unfold decodeTableWord at read
  split at read
  · generalize decode (BitVec.ofNat 32 (w % 2 ^ nbits)) = verdict at read ⊢
    cases verdict with
    | ok j => exact congrArg Except.ok (Option.some.inj read)
    | error e => cases read
  · cases read

/-- Settles O6: both states are in the sequencer's turn, with a word that decodes. -/
theorem stepRunsTheDecodedCommand : Obligations.StepRunsTheDecodedCommand := by
  refine ⟨fun s i busy due decoded => ?_, fun s nbits w i read => ?_⟩
  · exact step_of_decode (by simp [sequencerTurn, busy, due]) decoded
  · exact step_of_decode (sequencerTurn_withFetchWord s nbits w) (decode_of_decodeTableWord read)

/-! ### A command does not see the host's side of the state -/

/-- s with the host's side of h: BUSY, the command in flight, and the model's own fields, which no
command's rule reads or writes. -/
def State.withHost (s h : State) : State :=
  { s with
    busy := h.busy, pending := h.pending, latency := h.latency, inputs := h.inputs
    response := h.response, draws := h.draws }

/-- The lazy twist reads CURSOR and BUF only (R101). -/
theorem State.refreshed_withHost (s h : State) :
    (s.withHost h).refreshed = s.refreshed.withHost h :=
  (apply_ite (State.withHost · h) (s.cursor.val = bufWords) s.regenerate s).symm

/-- Predict steps do not see the host's side (R104). -/
theorem predictSteps_withHost (n : Nat) (s h : State) :
    predictSteps n (s.withHost h) = (predictSteps n s).withHost h := by
  induction n generalizing s with
  | zero => rfl
  | succ n ih =>
    rw [predictSteps, predictStep, s.refreshed_withHost]
    exact ih (predictStep s)

/-- An inverse step does not see the host's side (R82, R83). -/
theorem solveEffect_withHost (sh : Nat) (dir : Direction) (s h : State) :
    solveEffect sh dir (s.withHost h) = (solveEffect sh dir s).map (·.withHost h) := by
  simp only [solveEffect, operandA, operandB, State.withHost]
  split <;> rfl

/-- SUBMIT does not see the host's side (R87). -/
theorem submitEffect_withHost (s h : State) :
    submitEffect (s.withHost h) = (submitEffect s).map (·.withHost h) := by
  have mode : (s.withHost h).mode = s.mode := rfl
  simp only [submitEffect, mode, apply_ite (Except.map _)]
  cases s.mode <;> rfl

/-- No command's own effect sees the host's side, and none changes it (R66 to R104). -/
theorem effectOf_withHost (i : Instr) (s h : State) :
    effectOf i (s.withHost h) = (effectOf i s).map (·.withHost h) := by
  cases i with
  | ixshr sh | ixshl sh => exact solveEffect_withHost sh _ s h
  | submit => exact submitEffect_withHost s h
  | submitp | check | twist | untwist =>
    simp only [effectOf, submitpEffect, checkEffect, twistEffect, untwistEffect,
      apply_ite (Except.map _)]
    rfl
  | predict =>
    simp only [effectOf, predictEffect, predictStep, predictedWord, State.refreshed_withHost,
      apply_ite (Except.map _)]
    rfl
  | offset =>
    have setBuf (b : Buf) : (s.withHost h).setBuf b = (s.setBuf b).withHost h := rfl
    simp only [effectOf, offsetEffect, setBuf, predictSteps_withHost, apply_ite (Except.map _)]
    rfl
  | _ => rfl

/-- A command run with another host's side leaves what it leaves at s; its completion keeps only the
host's events, the last response and the count of draws (R108). -/
theorem runCommand_withHost (i : Instr) (s h : State) :
    runCommand (s.withHost h) (effectOf i) =
      { runCommand s (effectOf i) with
        inputs := h.inputs, response := h.response, draws := h.draws } := by
  have lock : (s.withHost h).fatal = s.fatal := rfl
  simp only [runCommand, effectOf_withHost, lock]
  cases s.fatal <;> cases effectOf i s <;> rfl

/-- A completion leaves BUSY = 0 and no latency (R108). -/
theorem runCommand_idle (s : State) (effect : State → Except ResultCode State) :
    (runCommand s effect).busy = false ∧ (runCommand s effect).latency = 0 := by
  rcases runCommand_cases s effect with ⟨-, h⟩ | ⟨-, c, -, h⟩ | ⟨-, s', -, h⟩ <;> rw [h] <;>
    exact ⟨rfl, rfl⟩

/-! ### Runs of the polling loop (R130) -/

/-- A run of one step. -/
theorem run_one {s t : State} (h : step s = .next t) : core.run 1 s = .next t := by
  simp [Host.Core.run, core, h]

/-- A run goes on from the state it has reached. -/
theorem run_add {j : Nat} {s t : State} (h : core.run j s = .next t) (k : Nat) :
    core.run (j + k) s = core.run k t := by
  induction j generalizing s with
  | zero =>
    obtain rfl : s = t := Host.Outcome.next.inj h
    rw [Nat.zero_add]
  | succ j ih =>
    rw [Nat.succ_add]
    simp only [Host.Core.run] at h ⊢
    split at h
    next hs => simpa only [hs] using ih h
    all_goals cases h

/-- In the host's turn a poll reads STATUS, and stays the next event while BUSY = 1 (R130). -/
theorem step_poll {s : State} {rest : List HostEvent} (next : s.inputs = .poll :: rest)
    (turn : s.busy = false ∨ s.latency ≠ 0) :
    step s =
      .next (readRegister (s.hostMoved (if s.busy then .poll :: rest else rest)) .status) := by
  have host : sequencerTurn s = false := by
    rcases turn with h | h <;> simp [sequencerTurn, next, h]
  simp only [step, host, hostTurn, next]
  rfl

/-- With BUSY = 0 a poll answers STATUS and is over (R130). -/
theorem step_poll_idle {s : State} {rest : List HostEvent} (next : s.inputs = .poll :: rest)
    (idle : s.busy = false) :
    step s = .next ((s.hostMoved rest).respond (.data s.status)) := by
  rw [step_poll next (.inl idle)]
  simp only [readRegister, State.hostMoved_busy, idle]
  rfl

/-- While a command is in flight, the polling loop uses up its latency and changes nothing but the
model's own fields (R130, R131, R133). -/
theorem run_polls {s : State} {rest : List HostEvent} (next : s.inputs = .poll :: rest)
    (busy : s.busy = true) :
    ∃ r d, core.run s.latency s = .next { s with latency := 0, response := r, draws := d } := by
  generalize left : s.latency = n
  induction n generalizing s with
  | zero =>
    have spent : s = { s with latency := 0 } := by rw [← left]
    exact ⟨_, _, congrArg Host.Outcome.next spent⟩
  | succ n ih =>
    have read := step_poll next (.inr (by omega))
    rw [busy, if_pos rfl, readRegister_frame, ← next] at read
    obtain ⟨r, d, polled⟩ :=
      ih (s := { s.hostMoved s.inputs with response := _, draws := _ }) next busy (by simp [left])
    exact ⟨r, d, by rw [Nat.add_comm, run_add (run_one read), polled]; rfl⟩

/-! ### A command line (R63) -/

/-- The CMD write and the polls after it bring the command to its completion, with nothing changed
but the host's side of the state. -/
theorem run_commandLine {s : State} {i : Instr} {rest : List HostEvent} (idle : s.busy = false)
    (next : s.inputs = commandLine i ++ rest) :
    ∃ k h, core.run k s = .next (s.withHost h) ∧ sequencerTurn (s.withHost h) = true ∧
      h.pending = encode i ∧ h.inputs = .poll :: rest := by
  have written := step_write .cmd next (.inl idle)
  rw [writeRegister_cmd (s := s.hostMoved _) idle] at written
  obtain ⟨r, d, polled⟩ := run_polls (rest := rest)
    (s := ((s.hostMoved (.poll :: rest)).issue (encode i)).respond .ok) rfl rfl
  exact ⟨_, { s with
      busy := true, pending := encode i, latency := 0, inputs := .poll :: rest
      response := r, draws := d },
    (run_add (run_one written) _).trans polled, rfl, rfl, rfl⟩

/-- Settles O58: the command runs as it would at s, and the last poll answers its STATUS. -/
theorem commandLineRunsItsCommand : Obligations.CommandLineRunsItsCommand := by
  intro s i rest wellFormed idle next
  obtain ⟨k, h, due, turn, word, events⟩ := run_commandLine idle next
  have decoded : decode (s.withHost h).pending = .ok i :=
    decode_eq_ok_iff_encode.mpr ⟨wellFormed, word.symm⟩
  have executed := step_of_decode turn decoded
  rw [exec_eq_runCommand, runCommand_withHost, events] at executed
  have meaning := exec_eq_runCommand i s
  obtain ⟨done, spent⟩ := runCommand_idle s (effectOf i)
  generalize runCommand s (effectOf i) = t at meaning executed done spent
  have polled := step_poll_idle
    (s := { t with inputs := .poll :: rest, response := h.response, draws := h.draws }) rfl done
  have ran := (run_add ((run_add due 1).trans (run_one executed)) 1).trans (run_one polled)
  refine ⟨_, t, _, meaning, ran, ?_⟩
  simp only [State.respond, State.hostMoved, spent]
  rfl

end Sys2Proof.Machine
end

section
/-! The statements on the ALU: a command whose effect succeeds completes with it, and each ALU
command is the bit-vector operation of its rule (R66). -/

namespace Sys2Proof.Machine

/-! ### The completion of a success (R108) -/

/-- A completion with code 0 is the success, with the word in flight and its latency cleared. -/
theorem State.complete_ok (s : State) :
    s.complete .ok = { s.succeeded with pending := 0, latency := 0 } := by
  simp [State.complete, State.succeeded, ResultCode.code]

/-- A command whose effect succeeds completes with that effect. -/
theorem completes_of_effectOf {i : Instr} {s t : State} (notFatal : s.fatal = false)
    (effect : effectOf i s = .ok t) : Completes (exec i s) t.succeeded := by
  rw [exec_eq_runCommand, runCommand_ok notFatal effect, t.complete_ok]
  exact ⟨_, rfl, rfl⟩

/-! ### A word of format S, with its shift written as a number (R55) -/

/-- A shift below 32 fits the SH field, so placing the field is shifting the number. -/
theorem formatS_eq_or_shiftLeft (opc : BitVec 8) {sh : Nat} (fits : sh < 32) :
    formatS opc sh = placed opc 24 ||| BitVec.ofNat 32 sh <<< 16 := by
  have field : (BitVec.ofNat 5 sh).setWidth 32 = BitVec.ofNat 32 sh :=
    BitVec.setWidth_ofNat_of_le_of_lt (by decide) fits
  rw [formatS, placed, placed, field]

/-! ### The bitwise commands (R67 to R69) -/

/-- Settles O14: AND's effect is the conjunction, which is bitwise. -/
theorem andWritesTheConjunction : Obligations.AndWritesTheConjunction :=
  ⟨rfl, fun _ notFatal => ⟨completes_of_effectOf notFatal rfl, fun _ => BitVec.getLsbD_and⟩⟩

/-- Settles O15: OR's effect is the disjunction. -/
theorem orWritesTheDisjunction : Obligations.OrWritesTheDisjunction :=
  ⟨rfl, fun _ notFatal => completes_of_effectOf notFatal rfl⟩

/-- Settles O16: XOR's effect is the exclusive disjunction. -/
theorem xorWritesTheSum : Obligations.XorWritesTheSum :=
  ⟨rfl, fun _ notFatal => completes_of_effectOf notFatal rfl⟩

/-! ### The shifts (R70, R71) -/

/-- A left shift moves bit j - sh to bit j, and zeros enter below sh (R70). -/
theorem getLsbD_shiftLeft_word (a : Word) (sh : Nat) {j : Nat} (hj : j < 32) :
    (a <<< sh).getLsbD j = if sh ≤ j then a.getLsbD (j - sh) else false := by
  rw [BitVec.getLsbD_shiftLeft]
  by_cases inside : sh ≤ j <;> simp [hj, inside]

/-- A right shift moves bit j + sh to bit j, and zeros enter where j + sh is past bit 31: no sign
extension (R71). -/
theorem getLsbD_ushiftRight_word (a : Word) (sh j : Nat) :
    (a >>> sh).getLsbD j = if j + sh ≤ 31 then a.getLsbD (j + sh) else false := by
  rw [BitVec.getLsbD_ushiftRight, Nat.add_comm]
  split
  next => rfl
  next past => exact BitVec.getLsbD_of_ge a _ (by omega)

/-- Settles O17: the two words are those of SHL and SHR, and each effect is a shift of OPA. -/
theorem shiftsFillWithZeros : Obligations.ShiftsFillWithZeros := by
  intro sh s fits notFatal
  have shl : (Instr.shl sh).WellFormed := decide_eq_true fits
  have shr : (Instr.shr sh).WellFormed := decide_eq_true fits
  exact ⟨decode_eq_ok_iff_encode.mpr ⟨shl, formatS_eq_or_shiftLeft 0x04 fits⟩,
    decode_eq_ok_iff_encode.mpr ⟨shr, formatS_eq_or_shiftLeft 0x05 fits⟩,
    s.opa <<< sh, s.opa >>> sh,
    completes_of_effectOf notFatal rfl, completes_of_effectOf notFatal rfl,
    fun j hj => ⟨getLsbD_shiftLeft_word s.opa sh hj, getLsbD_ushiftRight_word s.opa sh j⟩⟩

end Sys2Proof.Machine
end

section
/-! The statements on the shift-XOR step and its solver. With a shift, the closed form is the one
preimage; whatever the solver has resolved are that preimage's bits, and it resolves all of them. -/

namespace Sys2Proof.Machine

/-! ### The shift-XOR step, bit by bit (R73, R74) -/

/-- XSHR's bit j is combined with bit j + s where that lies in the word (R73). -/
theorem getLsbD_xshr (x : Word) (s : Nat) (m : Word) (j : Nat) :
    (xshr x s m).getLsbD j =
      if j + s ≤ 31 then x.getLsbD j ^^ (m.getLsbD j && x.getLsbD (j + s)) else x.getLsbD j := by
  rw [xshr, BitVec.getLsbD_xor, BitVec.getLsbD_and, getLsbD_ushiftRight_word, Bool.and_comm]
  split <;> simp

/-- XSHL's bit j is combined with bit j - s where that lies in the word (R74). -/
theorem getLsbD_xshl (x : Word) (s : Nat) (m : Word) {j : Nat} (hj : j < 32) :
    (xshl x s m).getLsbD j =
      if s ≤ j then x.getLsbD j ^^ (m.getLsbD j && x.getLsbD (j - s)) else x.getLsbD j := by
  rw [xshl, BitVec.getLsbD_xor, BitVec.getLsbD_and, getLsbD_shiftLeft_word x s hj, Bool.and_comm]
  split <;> simp

/-- Settles O18: the two words are those of XSHR and XSHL, and each effect is its step. -/
theorem shiftXorCommandsCombineBits : Obligations.ShiftXorCommandsCombineBits := by
  intro sh s fits notFatal
  have right : (Instr.xshr sh).WellFormed := decide_eq_true fits
  have left : (Instr.xshl sh).WellFormed := decide_eq_true fits
  exact ⟨decode_eq_ok_iff_encode.mpr ⟨right, formatS_eq_or_shiftLeft 0x10 fits⟩,
    decode_eq_ok_iff_encode.mpr ⟨left, formatS_eq_or_shiftLeft 0x11 fits⟩,
    completes_of_effectOf notFatal rfl, completes_of_effectOf notFatal rfl,
    fun j hj => ⟨getLsbD_xshr s.opa sh s.opb j, getLsbD_xshl s.opa sh s.opb hj⟩⟩

/-- The input bit that output bit j of the masked step depends on besides bit j, if there is one:
the source bit where the mask has bit j. -/
def dependency (s : Nat) (m : Word) (dir : Direction) (j : Nat) : Option Nat :=
  if m.getLsbD j then sourceBit dir s j else none

theorem dependency_eq_some_iff {s : Nat} {m : Word} {dir : Direction} {j i : Nat} :
    dependency s m dir j = some i ↔ m.getLsbD j = true ∧ sourceBit dir s j = some i := by
  simp [dependency]

/-- Either step's bit j is the input's, combined with the bit it depends on. -/
theorem getLsbD_shiftXor (dir : Direction) (x : Word) (s : Nat) (m : Word) {j : Nat} (hj : j < 32) :
    (shiftXor dir x s m).getLsbD j = (x.getLsbD j ^^ (dependency s m dir j).any x.getLsbD) := by
  cases dir with
  | left =>
    rw [shiftXor, getLsbD_xshl x s m hj, dependency, sourceBit]
    cases m.getLsbD j <;> split <;> simp
  | right =>
    rw [shiftXor, getLsbD_xshr, dependency, sourceBit]
    cases m.getLsbD j <;> split <;> simp

/-- The step is linear over GF(2) (R79). -/
theorem shiftXor_xor (dir : Direction) (a b : Word) (s : Nat) (m : Word) :
    shiftXor dir (a ^^^ b) s m = shiftXor dir a s m ^^^ shiftXor dir b s m := by
  apply BitVec.eq_of_getLsbD_eq
  intro j hj
  simp only [BitVec.getLsbD_xor, getLsbD_shiftXor _ _ _ _ hj]
  cases dependency s m dir j <;> simp [Bool.xor_left_comm]

/-- How far bit j is from the end of the word that the step leaves as it is: bit 0 for a left step,
bit 31 for a right step. -/
def depth : Direction → Nat → Nat
  | .left, j => j
  | .right, j => 31 - j

theorem depth_lt (dir : Direction) {j : Nat} (hj : j < 32) : depth dir j < 32 := by
  cases dir <;> simp only [depth] <;> omega

/-- A bit depends on a bit of the word that is s places less deep. -/
theorem depth_of_dependency {s : Nat} {m : Word} {dir : Direction} {j i : Nat} (hj : j < 32)
    (dep : dependency s m dir j = some i) : i < 32 ∧ depth dir i + s = depth dir j := by
  obtain ⟨-, source⟩ := dependency_eq_some_iff.mp dep
  cases dir <;> simp only [sourceBit, Option.ite_none_right_eq_some, Option.some.injEq] at source <;>
    simp only [depth] <;> omega

/-! ### The closed form is the one preimage (R76 (b) and (d)) -/

/-- One repetition of the closed form: the observed word, with what the step combines into x taken
out of it again. -/
def feedback (y : Word) (s : Nat) (m : Word) (dir : Direction) (x : Word) : Word :=
  y ^^^ (x ^^^ shiftXor dir x s m)

section
variable {y m : Word} {s : Nat} {dir : Direction}

theorem feedback_left : feedback y s m .left = fun x : Word => y ^^^ ((x <<< s) &&& m) := by
  funext x
  simp [feedback, shiftXor, xshl]

theorem feedback_right : feedback y s m .right = fun x : Word => y ^^^ ((x >>> s) &&& m) := by
  funext x
  simp [feedback, shiftXor, xshr]

/-- The preimages of y are the words that a repetition leaves as they are. -/
theorem isFixedPt_feedback_iff {x : Word} :
    Function.IsFixedPt (feedback y s m dir) x ↔ shiftXor dir x s m = y := by
  calc y ^^^ (x ^^^ shiftXor dir x s m) = x
      ↔ x ^^^ (shiftXor dir x s m ^^^ y) = x ^^^ 0#32 := by
        rw [BitVec.xor_comm y, BitVec.xor_assoc, BitVec.xor_zero]
    _ ↔ shiftXor dir x s m = y := by rw [BitVec.xor_right_inj, BitVec.xor_eq_zero_iff]

theorem getLsbD_feedback (x : Word) {j : Nat} (hj : j < 32) :
    (feedback y s m dir x).getLsbD j = (y.getLsbD j ^^ (dependency s m dir j).any x.getLsbD) := by
  simp [feedback, getLsbD_shiftXor dir x s m hj]

/-- The two words have the same bits at every depth below n. -/
def AgreeBelow (dir : Direction) (n : Nat) (a b : Word) : Prop :=
  ∀ j < 32, depth dir j < n → a.getLsbD j = b.getLsbD j

/-- A repetition makes s more depths final (R76 (d)). -/
theorem AgreeBelow.feedback {n : Nat} {a b : Word} (agree : AgreeBelow dir n a b) :
    AgreeBelow dir (n + s) (feedback y s m dir a) (feedback y s m dir b) := by
  intro j hj deep
  rw [getLsbD_feedback a hj, getLsbD_feedback b hj]
  cases dep : dependency s m dir j with
  | none => rfl
  | some i =>
    obtain ⟨hi, source⟩ := depth_of_dependency hj dep
    simp [agree i hi (by omega)]

theorem agreeBelow_iterate_feedback (k : Nat) (a b : Word) :
    AgreeBelow dir (k * s) ((feedback y s m dir)^[k] a) ((feedback y s m dir)^[k] b) := by
  induction k with
  | zero => intro j _ deep; omega
  | succ k ih =>
    rw [Nat.succ_mul, Function.iterate_succ_apply', Function.iterate_succ_apply']
    exact ih.feedback

theorem AgreeBelow.eq {n : Nat} {a b : Word} (agree : AgreeBelow dir n a b) (all : 32 ≤ n) : a = b :=
  BitVec.eq_of_getLsbD_eq fun j hj => agree j hj ((depth_lt dir hj).trans_le all)

/-- Enough repetitions forget the word they began with. -/
theorem iterate_feedback_eq {k : Nat} (enough : 32 ≤ k * s) (a b : Word) :
    (feedback y s m dir)^[k] a = (feedback y s m dir)^[k] b :=
  (agreeBelow_iterate_feedback k a b).eq enough

/-- With enough repetitions the closed form is the one preimage of y. -/
theorem shiftXor_eq_iff_iterate {k : Nat} (enough : 32 ≤ k * s) {x : Word} :
    shiftXor dir x s m = y ↔ x = (feedback y s m dir)^[k] y := by
  rw [← isFixedPt_feedback_iff]
  constructor
  · intro fixed
    rw [← iterate_feedback_eq enough x y, fixed.iterate k]
  · rintro rfl
    rw [Function.IsFixedPt, ← Function.iterate_succ_apply' (feedback y s m dir),
      Function.iterate_succ_apply]
    exact iterate_feedback_eq enough _ _

end

/-- Rounded up, 32 / s repetitions are enough. -/
theorem le_ceil_mul {s : Nat} (hs : 1 ≤ s) : 32 ≤ (31 + s) / s * s := by
  have := Nat.div_add_mod' (31 + s) s
  have := Nat.mod_lt (31 + s) hs
  omega

/-! ### What resolving a bit does (R75) -/

namespace Solver

variable {t : Solver} {x : Word}

theorem getLsbD_resolved_resolve (t : Solver) {j : Nat} (hj : j < 32) (v : Bool) (k : Nat) :
    (t.resolve j v).resolved.getLsbD k = (t.resolved.getLsbD k || decide (k = j)) := by
  rw [Solver.resolve, BitVec.getLsbD_or, show (1 : BitVec 1) = BitVec.ofBool true from rfl,
    getLsbD_placed_ofBool true hj, Bool.and_true]

/-- What the solver has found are the bits of x; a bit not resolved is 0. -/
def Agrees (t : Solver) (x : Word) : Prop := t.x = x &&& t.resolved

theorem Agrees.getLsbD (agrees : t.Agrees x) {i : Nat} (resolved : t.resolved.getLsbD i = true) :
    t.x.getLsbD i = x.getLsbD i := by
  rw [agrees, BitVec.getLsbD_and, resolved, Bool.and_true]

/-- Resolving a bit to its value in x agrees with x. -/
theorem Agrees.resolve (agrees : t.Agrees x) {j : Nat} (hj : j < 32) :
    (t.resolve j (x.getLsbD j)).Agrees x := by
  apply BitVec.eq_of_getLsbD_eq
  intro k _
  rw [BitVec.getLsbD_and, getLsbD_resolved_resolve t hj, Solver.resolve, BitVec.getLsbD_or,
    getLsbD_placed_ofBool _ hj, agrees, BitVec.getLsbD_and, Bool.and_or_distrib_left]
  by_cases same : k = j <;> simp [same]

end Solver

/-- A loop over all bit positions keeps p until it comes to bit j, and q, which bit j's turn gives,
from there on. -/
theorem foldl_range_reaches {f : Solver → Nat → Solver} {p q : Solver → Prop} {j : Nat} (hj : j < 32)
    (keepsP : ∀ t, ∀ k < 32, p t → p (f t k)) (gives : ∀ t, p t → q (f t j))
    (keepsQ : ∀ t, ∀ k < 32, q t → q (f t k)) {t : Solver} (start : p t) :
    q ((List.range 32).foldl f t) := by
  obtain ⟨before, after, cut⟩ := List.append_of_mem (List.mem_range.mpr hj)
  have inside {k : Nat} (mem : k ∈ before ++ j :: after) : k < 32 := List.mem_range.mp (cut ▸ mem)
  rw [cut, List.foldl_append, List.foldl_cons]
  refine List.foldlRecOn after f (gives _ (List.foldlRecOn before f start ?_)) ?_
  · exact fun t h k mem => keepsP t k (inside (by simp [mem])) h
  · exact fun t h k mem => keepsQ t k (inside (by simp [mem])) h

section
variable {y m x : Word} {s : Nat} {dir : Direction} {t : Solver} {j i : Nat}

/-! ### The tags before the first pass (R75) -/

theorem tagBit_of_free (t : Solver) (free : dependency s m dir j = none) :
    tagBit y s m dir t j = t.resolve j (y.getLsbD j) := by
  unfold dependency at free
  unfold tagBit
  cases mask : m.getLsbD j <;> simp_all

theorem tagBit_of_dependency (t : Solver) (dep : dependency s m dir j = some i) :
    tagBit y s m dir t j = t := by
  obtain ⟨mask, source⟩ := dependency_eq_some_iff.mp dep
  simp [tagBit, mask, source]

theorem tagBit_agrees (step : shiftXor dir x s m = y) (hj : j < 32) (agrees : t.Agrees x) :
    (tagBit y s m dir t j).Agrees x := by
  cases dep : dependency s m dir j with
  | none =>
    have observed : y.getLsbD j = x.getLsbD j := by simp [← step, getLsbD_shiftXor dir x s m hj, dep]
    rw [tagBit_of_free t dep, observed]
    exact agrees.resolve hj
  | some i => rwa [tagBit_of_dependency t dep]

theorem tagBit_keeps_resolved (hj : j < 32) (resolved : t.resolved.getLsbD i = true) :
    (tagBit y s m dir t j).resolved.getLsbD i = true := by
  cases dep : dependency s m dir j with
  | none => rw [tagBit_of_free t dep, t.getLsbD_resolved_resolve hj, resolved, Bool.true_or]
  | some _ => rwa [tagBit_of_dependency t dep]

theorem tagBit_keeps_selfDependent (hj : j < 32) (dep : dependency s m dir i = some i)
    (unresolved : t.resolved.getLsbD i = false) :
    (tagBit y s m dir t j).resolved.getLsbD i = false := by
  cases dep' : dependency s m dir j with
  | none =>
    have other : i ≠ j := by
      rintro rfl
      simp [dep] at dep'
    simp [tagBit_of_free t dep', t.getLsbD_resolved_resolve hj, unresolved, other]
  | some _ => rwa [tagBit_of_dependency t dep']

/-- What the solver's work keeps, for x a preimage of the observed word: its bits are those of x, and
the bits that depend on no other are resolved. -/
structure Solver.Sound (t : Solver) (s : Nat) (m : Word) (dir : Direction) (x : Word) : Prop where
  agrees : t.Agrees x
  free : ∀ j < 32, dependency s m dir j = none → t.resolved.getLsbD j = true

theorem initialTags_sound (step : shiftXor dir x s m = y) :
    (initialTags y s m dir).Sound s m dir x where
  agrees := List.foldlRecOn _ _ (motive := (Solver.Agrees · x)) BitVec.and_zero.symm
    fun _ agrees _ mem => tagBit_agrees step (List.mem_range.mp mem) agrees
  free j hj free := foldl_range_reaches (f := tagBit y s m dir) (p := fun _ => True)
    (q := (·.resolved.getLsbD j = true)) hj (fun _ _ _ _ => trivial)
    (fun t _ => by simp [tagBit_of_free t free, t.getLsbD_resolved_resolve hj])
    (fun _ _ => tagBit_keeps_resolved) trivial

/-! ### The passes (R75) -/

/-- The scan leaves a bit as it is, or resolves an unresolved one whose source is resolved. -/
theorem scanBit_cases (y : Word) (s : Nat) (dir : Direction) (t : Solver) (j : Nat) :
    scanBit y s dir t j = t ∨
      ∃ i, t.resolved.getLsbD j = false ∧ sourceBit dir s j = some i ∧
        t.resolved.getLsbD i = true ∧
        scanBit y s dir t j = t.resolve j (y.getLsbD j ^^ t.x.getLsbD i) := by
  unfold scanBit
  split
  · exact .inl rfl
  · split
    · split
      · exact .inr ⟨_, by simp_all, by assumption, by assumption, rfl⟩
      · exact .inl rfl
    · exact .inl rfl

theorem scanBit_keeps_resolved (hj : j < 32) (resolved : t.resolved.getLsbD i = true) :
    (scanBit y s dir t j).resolved.getLsbD i = true := by
  rcases scanBit_cases y s dir t j with same | ⟨_, -, -, -, found⟩
  · rwa [same]
  · rw [found, t.getLsbD_resolved_resolve hj, resolved, Bool.true_or]

theorem scanBit_keeps_selfDependent (hj : j < 32) (source : sourceBit dir s i = some i)
    (unresolved : t.resolved.getLsbD i = false) :
    (scanBit y s dir t j).resolved.getLsbD i = false := by
  rcases scanBit_cases y s dir t j with same | ⟨k, -, source', resolved, found⟩
  · rwa [same]
  · have other : i ≠ j := by
      rintro rfl
      simp_all
    simp [found, t.getLsbD_resolved_resolve hj, unresolved, other]

/-- The scan resolves a bit whose source is resolved. -/
theorem scanBit_resolves (hj : j < 32) (source : sourceBit dir s j = some i)
    (resolved : t.resolved.getLsbD i = true) :
    (scanBit y s dir t j).resolved.getLsbD j = true := by
  cases done : t.resolved.getLsbD j with
  | true => exact scanBit_keeps_resolved hj done
  | false => simp [scanBit, done, source, resolved, t.getLsbD_resolved_resolve hj]

/-- The value the scan gives to a bit is its value in every preimage of y. -/
theorem scanBit_sound (step : shiftXor dir x s m = y) (hj : j < 32) (sound : t.Sound s m dir x) :
    (scanBit y s dir t j).Sound s m dir x := by
  refine ⟨?_, fun k hk free => scanBit_keeps_resolved hj (sound.free k hk free)⟩
  rcases scanBit_cases y s dir t j with same | ⟨i, unresolved, source, resolved, found⟩
  · rw [same]
    exact sound.agrees
  · have mask : m.getLsbD j = true := by
      by_contra unmasked
      have free := sound.free j hj (by simp [dependency, unmasked])
      exact Bool.false_ne_true (unresolved.symm.trans free)
    have dep := dependency_eq_some_iff.mpr ⟨mask, source⟩
    have value : (y.getLsbD j ^^ t.x.getLsbD i) = x.getLsbD j := by
      simp [← step, getLsbD_shiftXor dir x s m hj, dep, sound.agrees.getLsbD resolved]
    rw [found, value]
    exact sound.agrees.resolve hj

/-- What every turn of the scan keeps, a pass keeps. -/
theorem scanPass_induction {p : Solver → Prop}
    (keeps : ∀ t, ∀ j < 32, p t → p (scanBit y s dir t j)) (start : p t) :
    p (scanPass y s dir t) :=
  List.foldlRecOn _ _ start fun t h j mem => keeps t j (List.mem_range.mp mem) h

/-- What every turn of the scan keeps, the passes keep. -/
theorem scanPasses_induction {p : Solver → Prop}
    (keeps : ∀ t, ∀ j < 32, p t → p (scanBit y s dir t j)) (fuel : Nat) (start : p t) :
    p (scanPasses y s dir fuel t) := by
  induction fuel generalizing t with
  | zero => exact start
  | succ fuel ih =>
    have pass := scanPass_induction keeps start
    rw [scanPasses]
    split
    · exact pass
    · exact ih pass

theorem scanPass_sound (step : shiftXor dir x s m = y) (sound : t.Sound s m dir x) :
    (scanPass y s dir t).Sound s m dir x :=
  scanPass_induction (p := (·.Sound s m dir x)) (fun _ _ hj => scanBit_sound step hj) sound

theorem scanPass_resolves (hj : j < 32) (source : sourceBit dir s j = some i)
    (resolved : t.resolved.getLsbD i = true) : (scanPass y s dir t).resolved.getLsbD j = true :=
  foldl_range_reaches (f := scanBit y s dir) (p := (·.resolved.getLsbD i = true))
    (q := (·.resolved.getLsbD j = true)) hj (fun _ _ => scanBit_keeps_resolved)
    (fun _ => scanBit_resolves hj source) (fun _ _ => scanBit_keeps_resolved) resolved

/-- With a shift, a pass resolves one depth more (R76 (a)). -/
theorem scanPass_resolves_depth (hs : 1 ≤ s) (step : shiftXor dir x s m = y)
    (sound : t.Sound s m dir x) {n : Nat} (below : AgreeBelow dir n t.resolved (BitVec.allOnes 32)) :
    AgreeBelow dir (n + 1) (scanPass y s dir t).resolved (BitVec.allOnes 32) := by
  intro j hj deep
  rw [BitVec.getLsbD_allOnes, decide_eq_true hj]
  cases dep : dependency s m dir j with
  | none => exact (scanPass_sound step sound).free j hj dep
  | some i =>
    obtain ⟨hi, source⟩ := depth_of_dependency hj dep
    refine scanPass_resolves hj (dependency_eq_some_iff.mp dep).2 ?_
    rw [below i hi (by omega), BitVec.getLsbD_allOnes, decide_eq_true hi]

/-- A pass without progress ends the loop with every depth resolved; before that, each pass resolves
one depth more. -/
theorem scanPasses_resolve_depth (hs : 1 ≤ s) (step : shiftXor dir x s m = y) (fuel : Nat)
    (sound : t.Sound s m dir x) {n : Nat} (below : AgreeBelow dir n t.resolved (BitVec.allOnes 32)) :
    AgreeBelow dir (n + fuel) (scanPasses y s dir fuel t).resolved (BitVec.allOnes 32) := by
  induction fuel generalizing t n with
  | zero => exact below
  | succ fuel ih =>
    have next {k : Nat} := scanPass_resolves_depth hs step sound (n := k)
    rw [scanPasses]
    split
    next noProgress =>
      rw [noProgress] at next ⊢
      exact Nat.le_induction below (fun _ _ => next) (n + (fuel + 1)) (Nat.le_add_right _ _)
    next =>
      rw [← Nat.add_assoc, Nat.add_right_comm]
      exact ih (scanPass_sound step sound) (next below)

end

/-! ### The solver (R75, R76) -/

section
variable {y m x : Word} {s : Nat} {dir : Direction}

/-- What the loop keeps holds of the tags at the end (R75). -/
theorem solved_sound (step : shiftXor dir x s m = y) :
    (scanPasses y s dir 33 (initialTags y s m dir)).Sound s m dir x :=
  scanPasses_induction (p := (·.Sound s m dir x)) (fun _ _ hj => scanBit_sound step hj) 33
    (initialTags_sound step)

/-- Where every bit is resolved at the end, the solver answers the preimage. -/
theorem solve_eq_some (step : shiftXor dir x s m = y)
    (all : (scanPasses y s dir 33 (initialTags y s m dir)).resolved = BitVec.allOnes 32) :
    solve y s m dir = some x := by
  have agrees := (solved_sound step).agrees
  rw [Solver.Agrees, all, BitVec.and_allOnes] at agrees
  rw [solve, if_pos all, agrees]

theorem solve_of_shiftXor_eq (hs : 1 ≤ s) (step : shiftXor dir x s m = y) : solve y s m dir = some x :=
  have start : AgreeBelow dir 0 (initialTags y s m dir).resolved (BitVec.allOnes 32) :=
    fun _ _ deep => absurd deep (Nat.not_lt_zero _)
  solve_eq_some step
    ((scanPasses_resolve_depth hs step 33 (initialTags_sound step) start).eq (by decide))

/-- With a shift the solver answers the closed form (R76 (d)). -/
theorem solve_eq_iterate (hs : 1 ≤ s) :
    solve y s m dir = some ((feedback y s m dir)^[(31 + s) / s] y) :=
  solve_of_shiftXor_eq hs ((shiftXor_eq_iff_iterate (le_ceil_mul hs)).mpr rfl)

/-- With a shift the solver answers the one preimage (R76 (b)). -/
theorem solve_eq_some_iff (hs : 1 ≤ s) : solve y s m dir = some x ↔ shiftXor dir x s m = y := by
  rw [solve_eq_iterate hs, Option.some.injEq, eq_comm, shiftXor_eq_iff_iterate (le_ceil_mul hs)]

/-- With shift 0 and mask 0 every bit is its observed bit (R76 (c)). -/
theorem solve_zero_zero : solve y 0 0 dir = some y := by
  have step : shiftXor dir y 0 0 = y := by cases dir <;> simp [shiftXor, xshl, xshr]
  refine solve_eq_some step (BitVec.eq_of_getLsbD_eq fun j hj => ?_)
  rw [BitVec.getLsbD_allOnes, decide_eq_true hj]
  exact (solved_sound step).free j hj (by simp [dependency])

/-- A bit that depends on itself stays unresolved, and the solver fails. -/
theorem solve_of_selfDependent {i : Nat} (hi : i < 32) (dep : dependency s m dir i = some i) :
    solve y s m dir = none := by
  have start : (initialTags y s m dir).resolved.getLsbD i = false :=
    List.foldlRecOn _ _ (motive := fun t : Solver => t.resolved.getLsbD i = false) BitVec.getLsbD_zero
      fun _ unresolved _ mem => tagBit_keeps_selfDependent (List.mem_range.mp mem) dep unresolved
  have final := scanPasses_induction (y := y) (p := (·.resolved.getLsbD i = false))
    (fun _ _ hj => scanBit_keeps_selfDependent hj (dependency_eq_some_iff.mp dep).2) 33 start
  refine if_neg fun all => Bool.false_ne_true (final.symm.trans ?_)
  rw [all, BitVec.getLsbD_allOnes, decide_eq_true hi]

/-- With shift 0 a masked bit depends on itself (R76 (c)). -/
theorem solve_zero_of_mask_ne_zero (mask : m ≠ 0) : solve y 0 m dir = none := by
  obtain ⟨j, hj, bit⟩ : ∃ j < 32, m.getLsbD j = true := by
    by_contra! clear
    exact mask (BitVec.eq_of_getLsbD_eq fun j hj => by simpa using clear j hj)
  refine solve_of_selfDependent hj (dependency_eq_some_iff.mpr ⟨bit, ?_⟩)
  cases dir <;> simp [sourceBit, Nat.le_of_lt_succ hj]

end

/-- Settles O19: with a shift by the closed form, with shift 0 by the bits that depend on
themselves. -/
theorem solverFindsTheUniquePreimage : Obligations.SolverFindsTheUniquePreimage := by
  refine ⟨fun _ _ _ _ _ hs _ => solve_eq_some_iff hs, fun _ _ _ _ hs _ => ⟨_, solve_eq_iterate hs⟩,
    fun y m dir => ?_⟩
  split
  next mask => rw [mask, solve_zero_zero]
  next mask => exact solve_zero_of_mask_ne_zero mask

/-- Settles O20: the repetition in either direction, written out. -/
theorem solverHasTheClosedForm : Obligations.SolverHasTheClosedForm :=
  fun _ _ _ hs _ => ⟨feedback_left ▸ solve_eq_iterate hs, feedback_right ▸ solve_eq_iterate hs⟩

end Sys2Proof.Machine
end

section
/-! The statements on the commands of the tempering unit: the inverse steps complete with the solver's
word, and tempering is a linear bijection whose inverse never fails. -/

namespace Sys2Proof.Machine

/-! ### The inverse steps (R82, R83) -/

/-- A command that raises a code other than the fatal one completes with it and nothing else. -/
theorem completes_of_effectOf_error {i : Instr} {s : State} {c : ResultCode}
    (notFatal : s.fatal = false) (error : effectOf i s = .error c) (failure : c ≠ .ok)
    (mild : c ≠ .invariantViolation) : Completes (exec i s) (s.failed c.code) := by
  rw [exec_eq_runCommand, runCommand_error notFatal error, s.complete_of_ne_ok failure,
    c.code_beq_two, beq_false_of_ne mild, Bool.or_false]
  exact ⟨_, rfl, rfl⟩

/-- An inverse step completes with the solver's word where there is one. -/
theorem completes_of_solve {i : Instr} {s : State} {sh : Nat} {dir : Direction} {r : Word}
    (effect : effectOf i s = solveEffect sh dir s) (notFatal : s.fatal = false)
    (solved : solve s.opa sh s.opb dir = some r) :
    Completes (exec i s) (State.succeeded { s with res := r }) := by
  refine completes_of_effectOf (t := s.setRes r) notFatal (effect.trans ?_)
  simp [solveEffect, operandA, operandB, solved]

/-- An inverse step in either direction: the one preimage with a shift, OPA with shift 0 and mask 0,
and BAD_OPERAND with shift 0 and another mask. -/
theorem inverseStep_completes {i : Instr} {s : State} {sh : Nat} {dir : Direction}
    (effect : effectOf i s = solveEffect sh dir s) (notFatal : s.fatal = false) :
    (1 ≤ sh → ∃ r : Word, solve s.opa sh s.opb dir = some r ∧
      shiftXor dir r sh s.opb = s.opa ∧ (∀ x, shiftXor dir x sh s.opb = s.opa → x = r) ∧
      Completes (exec i s) (State.succeeded { s with res := r })) ∧
    (sh = 0 → s.opb = 0 → Completes (exec i s) (State.succeeded { s with res := s.opa })) ∧
    (sh = 0 → s.opb ≠ 0 → Completes (exec i s) (s.failed 5)) := by
  refine ⟨fun hs => ?_, ?_, ?_⟩
  · have solved := solve_eq_iterate (y := s.opa) (m := s.opb) (dir := dir) hs
    refine ⟨_, solved, (solve_eq_some_iff hs).mp solved, fun x step => ?_,
      completes_of_solve effect notFatal solved⟩
    exact Option.some.inj ((solve_of_shiftXor_eq hs step).symm.trans solved)
  · rintro rfl mask
    exact completes_of_solve effect notFatal (by rw [mask, solve_zero_zero])
  · rintro rfl mask
    refine completes_of_effectOf_error (c := .badOperand) notFatal (effect.trans ?_) (by decide)
      (by decide)
    simp [solveEffect, operandA, operandB, solve_zero_of_mask_ne_zero mask]

/-- Settles O21: IXSHR's effect is the solver's in the right direction. -/
theorem ixshrInvertsTheRightStep : Obligations.IxshrInvertsTheRightStep := by
  intro sh s fits notFatal
  have wellFormed : (Instr.ixshr sh).WellFormed := decide_eq_true fits
  exact ⟨decode_eq_ok_iff_encode.mpr ⟨wellFormed, formatS_eq_or_shiftLeft 0x12 fits⟩,
    inverseStep_completes (dir := .right) rfl notFatal⟩

/-- Settles O22: IXSHL's effect is the solver's in the left direction. -/
theorem ixshlInvertsTheLeftStep : Obligations.IxshlInvertsTheLeftStep := by
  intro sh s fits notFatal
  have wellFormed : (Instr.ixshl sh).WellFormed := decide_eq_true fits
  exact ⟨decode_eq_ok_iff_encode.mpr ⟨wellFormed, formatS_eq_or_shiftLeft 0x13 fits⟩,
    inverseStep_completes (dir := .left) rfl notFatal⟩

/-! ### Tempering (R77 to R79) -/

/-- harden as its four steps, in the terms of the solver (R77). -/
theorem harden_eq (x : Word) :
    harden x = shiftXor .right (shiftXor .left (shiftXor .left (shiftXor .right x 11 fullMask)
      7 temperMask2) 15 temperMask3) 18 fullMask := rfl

theorem untemperStep_shiftXor {s : Nat} (hs : 1 ≤ s) (dir : Direction) (x m : Word) :
    untemperStep (shiftXor dir x s m) s m dir = x := by
  rw [untemperStep, solve_of_shiftXor_eq hs rfl, Option.getD_some]

/-- No inverse step fails with a shift, and the default value is never taken (R78). -/
theorem solve_eq_untemperStep {s : Nat} (hs : 1 ≤ s) (y m : Word) (dir : Direction) :
    solve y s m dir = some (untemperStep y s m dir) := by
  rw [untemperStep, solve_eq_iterate hs, Option.getD_some]

theorem shiftXor_untemperStep {s : Nat} (hs : 1 ≤ s) (dir : Direction) (y m : Word) :
    shiftXor dir (untemperStep y s m dir) s m = y :=
  (solve_eq_some_iff hs).mp (solve_eq_untemperStep hs y m dir)

theorem unharden_harden (x : Word) : unharden (harden x) = x := by
  simp (disch := decide) only [harden_eq, unharden, untemperStep_shiftXor]

theorem harden_unharden (y : Word) : harden (unharden y) = y := by
  simp (disch := decide) only [harden_eq, unharden, shiftXor_untemperStep]

theorem harden_xor (a b : Word) : harden (a ^^^ b) = harden a ^^^ harden b := by
  simp only [harden_eq, shiftXor_xor]

/-- The inverse of a linear bijection is linear. -/
theorem unharden_xor (a b : Word) : unharden (a ^^^ b) = unharden a ^^^ unharden b := by
  rw [← unharden_harden (unharden a ^^^ unharden b), harden_xor, harden_unharden, harden_unharden]

/-- Settles O23: the four steps cancel from the inside out, and each is linear. -/
theorem temperingIsALinearBijection : Obligations.TemperingIsALinearBijection :=
  ⟨fun x => ⟨unharden_harden x, harden_unharden x⟩,
    Function.bijective_iff_has_inverse.mpr ⟨unharden, unharden_harden, harden_unharden⟩,
    Function.bijective_iff_has_inverse.mpr ⟨harden, harden_unharden, unharden_harden⟩,
    fun a b => ⟨harden_xor a b, unharden_xor a b⟩, by decide⟩

/-- Settles O24: TEMPER's effect is harden, which is the four steps. -/
theorem temperRunsTheFourSteps : Obligations.TemperRunsTheFourSteps :=
  ⟨rfl, fun _ notFatal => completes_of_effectOf notFatal rfl⟩

/-- Settles O25: UNTEMPER's effect is unharden, none of whose four solver runs fails. -/
theorem untemperUndoesTheFourSteps : Obligations.UntemperUndoesTheFourSteps :=
  ⟨rfl, fun _ notFatal => ⟨_, _, _, _, solve_eq_untemperStep (by decide) _ _ _,
    solve_eq_untemperStep (by decide) _ _ _, solve_eq_untemperStep (by decide) _ _ _,
    solve_eq_untemperStep (by decide) _ _ _, completes_of_effectOf notFatal rfl⟩⟩

end Sys2Proof.Machine
end

section
/-! The statements on the state buffer: what a push and any number of pushes leave in BUF, and the
commands SUBMIT, SUBMITP and CLEAR (R86 to R88, R91). -/

namespace Sys2Proof.Machine

/-! ### Pushes (R86) -/

/-- A push appends the new word and drops the oldest (R86). -/
theorem Buf.toList_push (b : Buf) (v : Word) : (b.push v).toList = (b.toList ++ [v]).drop 1 := by
  simp [Buf.push, Vector.toList]

/-- Pushes append their words and drop as many of the oldest (R86). -/
theorem Buf.toList_foldl_push (vs : List Word) (b : Buf) :
    (vs.foldl Buf.push b).toList = (b.toList ++ vs).drop vs.length := by
  induction vs generalizing b with
  | nil => simp
  | cons v vs ih =>
    rw [List.foldl_cons, ih, b.toList_push, ← List.drop_append_of_le_length (by simp),
      List.drop_drop]
    simp [Nat.add_comm]

/-- After at least 624 pushes BUF is the last 624 of the pushed words, oldest first (R86). -/
theorem Buf.word_foldl_push {vs : List Word} (enough : 624 ≤ vs.length) (b : Buf) {k : Nat}
    (hk : k < 624) : (vs.foldl Buf.push b).word k = vs.getD (vs.length - 624 + k) 0 := by
  rw [Buf.word_eq_getElem _ hk, ← Vector.getElem_toList (by simpa using hk)]
  simp only [Buf.toList_foldl_push]
  rw [List.getElem_drop, List.getElem_append_right (by simp; omega),
    List.getD_eq_getElem _ _ (by omega)]
  congr 1
  rw [Vector.length_toList]
  omega

/-- A run that pushes one word for each item of a list has pushed those words (R86). -/
theorem buf_foldl {α : Type} {f : State → α → State} {word : α → Word}
    (pushes : ∀ s a, (f s a).buf = s.buf.push (word a)) (l : List α) (s : State) :
    (l.foldl f s).buf = (l.map word).foldl Buf.push s.buf := by
  rw [List.foldl_map]
  exact (List.foldl_hom State.buf fun s a => (pushes s a).symm).symm

/-- A count that every item of a list raises by c, up to the limit m. -/
theorem foldl_saturates {σ α : Type} {f : σ → α → σ} {count : σ → Nat} {m c : Nat}
    (raises : ∀ s a, count (f s a) = min m (count s + c)) (l : List α) {s : σ}
    (within : count s ≤ m) : count (l.foldl f s) = min m (count s + c * l.length) := by
  induction l generalizing s with
  | nil => simp [within]
  | cons a l ih =>
    rw [List.foldl_cons, ih (by rw [raises]; exact min_le_left _ _), raises, List.length_cons,
      Nat.mul_succ]
    omega

/-- FILL after a push, as a number (R86). -/
theorem State.push_fill_val (s : State) (v : Word) :
    (s.push v).fill.val = min 624 (s.fill.val + 1) := by
  rw [State.push_fill, bufWords_eq, Fin.val_ofNat, Nat.mod_eq_of_lt (by omega)]

/-- Settles O26: p pushes are the pushes of the list u_1 .. u_p. -/
theorem pushesKeepTheLast624Words : Obligations.PushesKeepTheLast624Words := by
  refine ⟨fun s v => ⟨s.push_fill_val v, ?_, fun k hk => ?_⟩, fun s u p k hp hk => ⟨?_, ?_⟩,
    sat32_toNat⟩
  · rw [State.push_buf, Buf.word_push _ _ (by decide), if_pos rfl]
  · rw [State.push_buf, Buf.word_push _ _ (by omega), if_neg (by omega)]
  · rw [buf_foldl (word := fun i => u (i + 1)) (fun _ _ => rfl),
      Buf.word_foldl_push (by simpa using hp) _ hk, List.getD_eq_getElem _ _ (by simp; omega)]
    simp only [List.getElem_map, List.getElem_range, List.length_map, List.length_range]
    exact congrArg u (by omega)
  · rw [foldl_saturates (count := fun s : State => s.fill.val) (m := 624) (c := 1)
      (fun s i => s.push_fill_val (u (i + 1))) _ (Nat.le_of_lt_succ s.fill.isLt), List.length_range]
    omega

/-! ### SUBMIT, SUBMITP and CLEAR (R87, R88, R91) -/

/-- A SUBMIT in DIRECT mode with READY = 0 counts 32 bits, pushes the raw word and writes it to RES
(R87). -/
theorem submitEffect_direct {s : State} (notReady : s.ready = false) (direct : s.mode = .direct) :
    submitEffect s = .ok (((s.addBits 32).push (unharden s.opa)).setRes (unharden s.opa)) := by
  simp [submitEffect, notReady, direct, operandA]

/-- Settles O27: SUBMIT is refused on READY, and its mode decides whether it pushes. -/
theorem submitPushesTheRawWord : Obligations.SubmitPushesTheRawWord := by
  refine ⟨rfl, fun s notFatal => ⟨fun ready => ?_, fun notReady direct => ?_,
    fun notReady matrix => ?_⟩⟩
  · exact completes_of_effectOf_error (c := .wrongState) notFatal
      (by simp [effectOf, submitEffect, ready]) (by decide) (by decide)
  · obtain ⟨pushed, -, -⟩ := pushesKeepTheLast624Words
    obtain ⟨fill, last, moved⟩ := pushed s (unharden s.opa)
    exact ⟨_, _, _, completes_of_effectOf notFatal (submitEffect_direct notReady direct),
      sat32_toNat _, fill, last, moved⟩
  · exact ⟨_, completes_of_effectOf (t := s.addBits 32) notFatal
      (by simp [effectOf, submitEffect, notReady, matrix]), sat32_toNat _⟩

/-- A width below 2^16 fits the W field, so placing the field is placing the number. -/
theorem formatW_eq_or (opc : BitVec 8) {width : Nat} (fits : width < 65536) :
    formatW opc width = placed opc 24 ||| BitVec.ofNat 32 width := by
  have field : (BitVec.ofNat 16 width).setWidth 32 = BitVec.ofNat 32 width :=
    BitVec.setWidth_ofNat_of_le_of_lt (by decide) fits
  rw [formatW, placed, placed, field, BitVec.shiftLeft_zero]

/-- The operand test of SUBMITP: W is 0 or a multiple of 32 (R88). -/
theorem wordMultiple_iff {width : Nat} :
    wordMultiple width = true ↔ width = 0 ∨ width % 32 = 0 := by
  simp [wordMultiple]

/-- Settles O28: the operand test comes first, then the state test. -/
theorem submitpCountsBitsAndEntersMatrixMode :
    Obligations.SubmitpCountsBitsAndEntersMatrixMode := by
  intro width s fits notFatal
  have wellFormed : (Instr.submitp width).WellFormed := decide_eq_true fits
  have accepted (nonzero : width ≠ 0) (rest : width % 32 ≠ 0) : ¬ wordMultiple width = true :=
    mt wordMultiple_iff.mp (not_or.mpr ⟨nonzero, rest⟩)
  refine ⟨decode_eq_ok_iff_encode.mpr ⟨wellFormed, formatW_eq_or 0x21 fits⟩, fun multiple => ?_,
    fun nonzero rest ready => ?_, fun nonzero rest notReady => ?_⟩
  · exact completes_of_effectOf_error (c := .badOperand) notFatal
      (if_pos (wordMultiple_iff.mpr multiple)) (by decide) (by decide)
  · exact completes_of_effectOf_error (c := .wrongState) notFatal
      ((if_neg (accepted nonzero rest)).trans (if_pos ready)) (by decide) (by decide)
  · exact ⟨_, sat32_toNat _, completes_of_effectOf (t := s.toMatrix.addBits width) notFatal
      ((if_neg (accepted nonzero rest)).trans (if_neg (by simp [notReady])))⟩

/-- Under the fatal lock every command completes with INVARIANT_VIOLATION and nothing else (R109). -/
theorem completes_of_fatal {s : State} (i : Instr) (locked : s.fatal = true) :
    Completes (exec i s) (s.failed 2) := by
  rw [exec_eq_runCommand, runCommand_fatal locked, s.complete_of_ne_ok (by decide)]
  exact ⟨_, rfl, by simp [State.failed, locked, ResultCode.code]⟩

/-- Settles O30: CLEAR's effect is the emptied controller, and the lock comes before it. -/
theorem clearEmptiesTheController : Obligations.ClearEmptiesTheController :=
  ⟨rfl, fun _ => ⟨fun notFatal =>
    ⟨_, fun k _ => Buf.word_zero k, completes_of_effectOf notFatal rfl, rfl⟩,
    completes_of_fatal .clear⟩⟩

end Sys2Proof.Machine
end

section
/-! The statements on CHECK, and the reconstruction: what a run of submissions leaves, CHECK after
enough of them, and PREDICT after CHECK on a stream (R90, R92, R98). -/

namespace Sys2Proof.Machine

/-! ### CHECK (R90) -/

/-- A DIRECT-mode CHECK 0 with enough bits and words twists BUF and sets READY (R90). -/
theorem checkEffect_readies {s : State} (enough : 19968 ≤ s.ledger.toNat)
    (direct : s.mode = .direct) (notReady : s.ready = false) (full : s.fill.val = 624) :
    checkEffect false s = .ok (s.regenerate.markReady.setRes 1) := by
  simp [checkEffect, Nat.not_lt.mpr enough, direct, notReady, full]

/-- Settles O29: each test of CHECK in turn, with those before it passed. -/
theorem checkTestsAndReadies : Obligations.CheckTestsAndReadies := by
  refine ⟨rfl, rfl, fun fm s notFatal => ⟨fun few => ?_, fun enough unimplemented => ?_,
    fun enough direct zero => ?_⟩⟩
  · exact completes_of_effectOf_error (c := .insufficientData) notFatal (if_pos few) (by decide)
      (by decide)
  · exact completes_of_effectOf_error (c := .matrixUnimplemented) notFatal
      ((if_neg (Nat.not_lt.mpr enough)).trans (if_pos unimplemented)) (by decide) (by decide)
  subst zero
  refine ⟨fun ready => ?_, fun notReady short => ?_, fun notReady full => ?_⟩
  · exact completes_of_effectOf (t := s.setRes 1) notFatal
      (by simp [effectOf, checkEffect, Nat.not_lt.mpr enough, direct, ready])
  · have violated : effectOf (.check false) s = .error .invariantViolation := by
      simp [effectOf, checkEffect, Nat.not_lt.mpr enough, direct, notReady, short]
    rw [exec_eq_runCommand, runCommand_error notFatal violated, s.complete_of_ne_ok (by decide),
      notFatal]
    exact ⟨_, rfl, rfl⟩
  · exact completes_of_effectOf notFatal (checkEffect_readies enough direct notReady full)

/-! ### A run of submissions (R87, R92) -/

/-- A command whose effect succeeds answers the completion of that effect (R108). -/
theorem exec_of_effectOf {i : Instr} {s t : State} (notFatal : s.fatal = false)
    (effect : effectOf i s = .ok t) : exec i s = .next (t.complete .ok) := by
  rw [exec_eq_runCommand, runCommand_ok notFatal effect]

/-- A state in which a SUBMIT pushes: no fatal lock, READY = 0 and DIRECT mode (R87). -/
structure State.Accepting (s : State) : Prop where
  notFatal : s.fatal = false
  notReady : s.ready = false
  direct : s.mode = .direct

/-- The state after OPA = v and a SUBMIT that pushes (R87). -/
def State.submitted (s : State) (v : Word) : State :=
  ((((s.setOpa v).addBits 32).push (unharden v)).setRes (unharden v)).complete .ok

theorem State.Accepting.exec_submit {s : State} (h : s.Accepting) (v : Word) :
    exec .submit (s.setOpa v) = .next (s.submitted v) :=
  exec_of_effectOf (s := s.setOpa v) h.notFatal
    (submitEffect_direct (s := s.setOpa v) h.notReady h.direct)

/-- After a submission the next one pushes too. -/
theorem State.Accepting.submitted {s : State} (h : s.Accepting) (v : Word) :
    (s.submitted v).Accepting :=
  ⟨by simp [State.submitted, h.notFatal], h.notReady, h.direct⟩

/-- The host's submissions run one after the other, and all of them push. -/
theorem State.Accepting.runWith_submits {s : State} (h : s.Accepting) (vs : List Word) :
    runWith (vs.map fun v => (v, Instr.submit)) s = .next (vs.foldl State.submitted s) ∧
      (vs.foldl State.submitted s).Accepting := by
  induction vs generalizing s with
  | nil => exact ⟨rfl, h⟩
  | cons v vs ih => simpa [runWith, h.exec_submit v] using ih (h.submitted v)

/-- After at least 624 submissions BUF is the raw words of the last 624 of them, oldest first (R86,
R87). -/
theorem buf_foldl_submitted {vs : List Word} (enough : 624 ≤ vs.length) (s : State) :
    (vs.foldl State.submitted s).buf =
      Vector.ofFn fun k : Fin 624 => unharden (vs.getD (vs.length - 624 + k.val) 0) := by
  refine Buf.ext_word fun k hk => ?_
  rw [buf_foldl (word := unharden) (fun _ _ => rfl),
    Buf.word_foldl_push (by simpa using enough) _ hk, Buf.word_ofFn _ hk, List.length_map,
    List.getD_eq_getElem _ _ (by simp; omega), List.getElem_map,
    List.getD_eq_getElem _ _ (by omega)]

/-- The state after a CHECK 0 that twists BUF and sets READY (R90). -/
def State.checked (s : State) : State := (s.regenerate.markReady.setRes 1).complete .ok

theorem State.checked_buf (s : State) : s.checked.buf = twist s.buf := rfl

theorem State.checked_fatal (s : State) : s.checked.fatal = s.fatal := by
  simp [State.checked]

/-- After at least 624 submissions CHECK 0 twists BUF and sets READY: LEDGER and FILL have both
reached what it asks for (R92). -/
theorem State.Accepting.check_after_submits {s : State} (h : s.Accepting) {vs : List Word}
    (enough : 624 ≤ vs.length) :
    exec (.check false) (vs.foldl State.submitted s) =
      .next (vs.foldl State.submitted s).checked := by
  obtain ⟨-, last⟩ := h.runWith_submits vs
  have fill : (vs.foldl State.submitted s).fill.val = min 624 (s.fill.val + 1 * vs.length) :=
    foldl_saturates (f := State.submitted) (count := fun s => s.fill.val)
      (fun s v => (s.addBits 32).push_fill_val (unharden v)) vs (Nat.le_of_lt_succ s.fill.isLt)
  have ledger : (vs.foldl State.submitted s).ledger.toNat =
      min 4294967295 (s.ledger.toNat + 32 * vs.length) :=
    foldl_saturates (f := State.submitted) (count := fun s => s.ledger.toNat)
      (fun s v => (sat32_toNat _).trans (min_comm _ _)) vs (Nat.le_of_lt_succ s.ledger.isLt)
  exact exec_of_effectOf last.notFatal
    (checkEffect_readies (by omega) last.direct last.notReady (by omega))

/-- Settles O46: CHECK twists the buffer that the submissions left. -/
theorem checkTwistsTheLast624Submissions : Obligations.CheckTwistsTheLast624Submissions := by
  intro vs s enough notFatal notReady direct
  have accepting : s.Accepting := ⟨notFatal, notReady, direct⟩
  exact ⟨_, _, (accepting.runWith_submits vs).1, accepting.check_after_submits enough, rfl, rfl,
    congrArg twist (buf_foldl_submitted enough s)⟩

/-! ### The twist of a window of a stream (R98) -/

/-- The twist is the whole forward loop (R93). -/
theorem twist_eq_twistSteps (b : Buf) : twist b = twistSteps 624 b := by
  unfold twist
  rfl

section
variable {x : Nat → Word}
  (recurrence : ∀ n, x (n + 624) = x (n + 397) ^^^ mag (mix (x n) (x (n + 1))))
include recurrence

/-- BUF is a ring of 624 words: after n steps of the forward loop on the words from 0 on, it holds
the words from n on, each at its index modulo 624 (R93, R98). -/
theorem word_twistSteps_stream (n : Nat) {j : Nat} (low : n ≤ j) (high : j < n + 624) :
    (twistSteps n (Vector.ofFn fun k : Fin 624 => x k.val)).word j = x j := by
  induction n generalizing j with
  | zero => exact Buf.word_ofFn _ (by omega)
  | succ n ih =>
    rw [twistSteps]
    by_cases new : j = n + 624
    · rw [new, ← Buf.word_mod, Nat.add_mod_right, Buf.word_mod, word_twistAt_same,
        ih (by omega) (by omega), ih (by omega) (by omega), ih (by omega) (by omega), recurrence]
    · rw [word_twistAt_other _ (by omega), ih (by omega) (by omega)]

/-- The twist slides the window by 624 (R98). -/
theorem twist_stream : twist (Vector.ofFn fun k : Fin 624 => x k.val) =
    Vector.ofFn fun k : Fin 624 => x (624 + k.val) := by
  refine Buf.ext_word fun k hk => ?_
  have ring := word_twistSteps_stream recurrence 624 (j := 624 + k) (by omega) (by omega)
  rw [← Buf.word_mod, Nat.add_mod_left, Buf.word_mod] at ring
  rw [twist_eq_twistSteps, ring, Buf.word_ofFn _ hk]

end

/-- On a stream over the integers the twist slides every window by 624 (R98, R102). -/
theorem twist_window {x : Int → Word} (stream : Stream x) (j : Int) :
    twist (window x j) = window x (j + 624) := by
  have slid := twist_stream (x := fun n => x (j + n)) fun n => by
    simpa [add_assoc] using stream (j + n)
  simpa [window, add_assoc] using slid

/-! ### The reconstruction (R92 (c)) -/

/-- A PREDICT with READY = 1 returns the next output and leaves the predict step's state (R103). -/
theorem exec_predict {s : State} (notFatal : s.fatal = false) (ready : s.ready = true) :
    exec .predict s = .next (((predictStep s).setRes (predictedWord s)).complete .ok) :=
  exec_of_effectOf notFatal (if_pos ready)

/-- With CURSOR = 0 the next output is that of BUF[0] (R101). -/
theorem predictedWord_of_cursor_zero {s : State} (start : s.cursor = 0) :
    predictedWord s = harden (s.buf.word 0) := by
  simp [predictedWord, State.refreshed, start]

/-- The outputs of a stream from 0 on, as the host observes them. -/
def outputs (x : Int → Word) (p : Nat) : List Word :=
  (List.range p).map fun k : Nat => harden (x k)

theorem length_outputs (x : Int → Word) (p : Nat) : (outputs x p).length = p := by simp [outputs]

/-- The host's pairs for a reconstruction are the submissions of the outputs. -/
theorem submits_outputs (x : Int → Word) (p : Nat) :
    ((List.range p).map fun k => (harden (x (k : Int)), Instr.submit)) =
      (outputs x p).map fun v => (v, Instr.submit) := by
  simp [outputs, ← List.map_eq_flatMap]

/-- After p submitted outputs, p at least 624, BUF is the window that ends before p (R86, R92). -/
theorem buf_after_outputs (x : Int → Word) {p : Nat} (enough : 624 ≤ p) (s : State) :
    ((outputs x p).foldl State.submitted s).buf = window x (p - 624) := by
  rw [buf_foldl_submitted (by rwa [length_outputs]), window, length_outputs]
  congr 1
  funext k
  rw [List.getD_eq_getElem _ _ (by rw [length_outputs]; omega)]
  simp only [outputs, List.getElem_map, List.getElem_range, unharden_harden]
  exact congrArg x (by omega)

/-- Settles O45: CHECK slides the window that the outputs left to the one at p, whose first word
PREDICT tempers. -/
theorem reconstructionPredictsTheStream : Obligations.ReconstructionPredictsTheStream := by
  intro x p s stream enough notFatal notReady direct
  have accepting : s.Accepting := ⟨notFatal, notReady, direct⟩
  obtain ⟨run, last⟩ := accepting.runWith_submits (outputs x p)
  have check := accepting.check_after_submits (vs := outputs x p) (by rwa [length_outputs])
  have slid : ((outputs x p).foldl State.submitted s).checked.buf = window x p := by
    rw [State.checked_buf, buf_after_outputs x enough, twist_window stream, sub_add_cancel]
  refine ⟨_, _, _, by rwa [submits_outputs], check, rfl, rfl, rfl, slid, rfl,
    exec_predict ((State.checked_fatal _).trans last.notFatal) rfl, ?_⟩
  rw [State.complete_res, State.setRes_res, predictedWord_of_cursor_zero rfl, slid, window,
    Buf.word_ofFn _ (by decide), Nat.cast_zero, add_zero]

end Sys2Proof.Machine
end

section
/-! The statements on the twist engine: its linearity, the words of a twist as the continuation of
the buffer's words by the recurrence, its inverse on the consistent buffers, and the commands TWIST
and UNTWIST (R93 to R100). -/

namespace Sys2Proof.Machine

/-! ### The two halves of a mixing word, and the two directions of mag (R93, R94, R96) -/

/-- A mixing word bit by bit: bit 31 of its first word, the others of its second (R93). -/
theorem getLsbD_mix (u l : Word) {j : Nat} (hj : j < 32) :
    (mix u l).getLsbD j = if j = 31 then u.getLsbD j else l.getLsbD j := by
  have masks : ∀ j < 32, upperMask.getLsbD j = decide (j = 31) ∧
      lowerMask.getLsbD j = decide (j ≠ 31) := by decide
  obtain ⟨upper, lower⟩ := masks j hj
  rw [mix, BitVec.getLsbD_or, BitVec.getLsbD_and, BitVec.getLsbD_and, upper, lower]
  split <;> simp [*]

/-- Only the upper bit of the first word and the lower bits of the second matter (R93). -/
theorem mix_congr {u u' l l' : Word} (upper : u.getLsbD 31 = u'.getLsbD 31)
    (lower : l &&& lowerMask = l' &&& lowerMask) : mix u l = mix u' l' := by
  have top (w : Word) : w &&& upperMask = if w.getLsbD 31 then upperMask else 0 :=
    BitVec.and_twoPow w 31
  rw [mix, lower, top, upper, ← top, ← mix]

/-- A word is the mix of its own two halves (R93). -/
theorem mix_self (w : Word) : mix w w = w := by
  refine BitVec.eq_of_getLsbD_eq fun j hj => ?_
  rw [getLsbD_mix w w hj, ite_self]

theorem mix_xor (u u' l l' : Word) : mix (u ^^^ u') (l ^^^ l') = mix u l ^^^ mix u' l' := by
  refine BitVec.eq_of_getLsbD_eq fun j hj => ?_
  simp only [getLsbD_mix _ _ hj, BitVec.getLsbD_xor]
  split <;> rfl

theorem xor_xor_xor_comm (a b c d : Word) : (a ^^^ b) ^^^ (c ^^^ d) = (a ^^^ c) ^^^ (b ^^^ d) := by
  ac_rfl

theorem mag_xor (a b : Word) : mag (a ^^^ b) = mag a ^^^ mag b := by
  rw [mag, mag, mag, BitVec.ushiftRight_xor_distrib, BitVec.getLsbD_xor, xor_xor_xor_comm]
  congr 1
  cases a.getLsbD 0 <;> cases b.getLsbD 0 <;> simp

/-- A map of a finite type to itself that can be undone is onto, so it undoes its inverse. -/
theorem rightInverse_of_finite {α : Type} [Finite α] {f g : α → α}
    (undoes : Function.LeftInverse g f) : Function.RightInverse g f :=
  undoes.rightInverse_of_surjective (Finite.surjective_of_injective undoes.injective)

/-- mag undoes g: there are finitely many words (R96). -/
theorem mag_unmag (t : Word) : mag (unmag t) = t :=
  rightInverse_of_finite unmag_mag t

/-- The inverse of a linear bijection is linear. -/
theorem unmag_xor (a b : Word) : unmag (a ^^^ b) = unmag a ^^^ unmag b := by
  rw [← unmag_mag (unmag a ^^^ unmag b), mag_xor, mag_unmag, mag_unmag]

/-- Settles O32: g undoes mag, and the last step of either loop makes its output consistent. -/
theorem twistOutputsAreConsistent : Obligations.TwistOutputsAreConsistent :=
  ⟨unmag_mag, twist_consistent, untwist_consistent⟩

/-! ### Linearity (R97 (e)) -/

theorem Buf.word_xor (a b : Buf) (k : Nat) : (a.xor b).word k = a.word k ^^^ b.word k := by
  rw [← Buf.word_mod, Buf.xor, Buf.word_ofFn _ (Nat.mod_lt k (by decide)), Buf.word_mod,
    Buf.word_mod]

theorem Buf.put_xor (a b : Buf) (k : Nat) (u v : Word) :
    (a.xor b).put k (u ^^^ v) = (a.put k u).xor (b.put k v) := by
  refine Buf.ext_word fun j _ => ?_
  rw [Buf.word_xor, Buf.word_put, Buf.word_put, Buf.word_put]
  split
  next => rfl
  next => exact a.word_xor b j

theorem Buf.xor_self (b : Buf) : b.xor b = Buf.zero :=
  Buf.ext_word fun k _ => by
    rw [Buf.word_xor, Buf.word_zero]
    exact BitVec.xor_self

theorem twistAt_xor (a b : Buf) (k : Nat) :
    twistAt (a.xor b) k = (twistAt a k).xor (twistAt b k) := by
  simp only [twistAt, Buf.word_xor, mix_xor, mag_xor, xor_xor_xor_comm _ _ (mag _), Buf.put_xor]

theorem untwistAt_xor (a b : Buf) (i : Nat) :
    untwistAt (a.xor b) i = (untwistAt a i).xor (untwistAt b i) := by
  simp only [untwistAt, Buf.word_xor, xor_xor_xor_comm _ (Buf.word b _), unmag_xor, mix_xor,
    Buf.put_xor]

theorem twistSteps_xor (n : Nat) (a b : Buf) :
    twistSteps n (a.xor b) = (twistSteps n a).xor (twistSteps n b) := by
  induction n with
  | zero => rfl
  | succ n ih => rw [twistSteps, ih, twistAt_xor, twistSteps, twistSteps]

theorem untwistSteps_xor (n : Nat) (a b : Buf) :
    untwistSteps n (a.xor b) = (untwistSteps n a).xor (untwistSteps n b) := by
  induction n generalizing a b with
  | zero => rfl
  | succ n ih => rw [untwistSteps, untwistAt_xor, ih, untwistSteps, untwistSteps]

/-- The untwist is the whole backward loop (R95). -/
theorem untwist_eq_untwistSteps (b : Buf) : untwist b = untwistSteps 624 b := by
  unfold untwist
  rfl

theorem twist_xor (a b : Buf) : twist (a.xor b) = (twist a).xor (twist b) := by
  simp only [twist_eq_twistSteps, twistSteps_xor]

theorem untwist_xor (a b : Buf) : untwist (a.xor b) = (untwist a).xor (untwist b) := by
  simp only [untwist_eq_untwistSteps, untwistSteps_xor]

/-- A linear map takes the zero buffer to itself: zero is its own double. -/
theorem map_zero_of_xor {f : Buf → Buf} (linear : ∀ a b, f (a.xor b) = (f a).xor (f b)) :
    f Buf.zero = Buf.zero :=
  calc f Buf.zero
    _ = f (Buf.zero.xor Buf.zero) := by rw [Buf.xor_self]
    _ = Buf.zero := by rw [linear, Buf.xor_self]

/-- Settles O35: every step of either loop is linear. -/
theorem twistAndUntwistAreLinear : Obligations.TwistAndUntwistAreLinear :=
  ⟨fun a b => ⟨twist_xor a b, untwist_xor a b⟩, map_zero_of_xor twist_xor,
    map_zero_of_xor untwist_xor⟩

/-! ### The dead bits (R97 (a)) -/

section
variable {b : Buf} {v : Word} (upper : v.getLsbD 31 = (b.word 0).getLsbD 31)
include upper

/-- The first step of the forward loop reads only the upper bit of word 0, and overwrites it. -/
theorem twistAt_put_zero : twistAt (b.put 0 v) 0 = twistAt b 0 := by
  refine Buf.ext_word fun j hj => ?_
  by_cases first : j = 0
  · subst first
    rw [word_twistAt_same, word_twistAt_same, Buf.word_put_same, mix_congr upper rfl,
      Buf.word_put_other _ _ (by decide), Buf.word_put_other _ _ (by decide)]
  · rw [word_twistAt_other _ (by omega), word_twistAt_other _ (by omega),
      Buf.word_put_other _ _ (by omega)]

theorem twistSteps_put_zero (n : Nat) : twistSteps (n + 1) (b.put 0 v) = twistSteps (n + 1) b := by
  induction n with
  | zero => exact twistAt_put_zero upper
  | succ n ih => rw [twistSteps, ih, ← twistSteps]

end

/-- Settles O34: from its first step on the forward loop runs on the same buffer. -/
theorem twistIgnoresTheDeadBits : Obligations.TwistIgnoresTheDeadBits := by
  intro b v upper
  rw [twist_eq_twistSteps, twist_eq_twistSteps, twistSteps_put_zero upper 623]

/-! ### The stream that a buffer begins (R94, R98) -/

/-- The words of a buffer, continued without end by the recurrence (R98). -/
def Buf.stream (b : Buf) (n : Nat) : Word :=
  if n < 624 then b.word n
  else b.stream (n - 227) ^^^ mag (mix (b.stream (n - 624)) (b.stream (n - 623)))
termination_by n

theorem Buf.stream_of_lt (b : Buf) {n : Nat} (h : n < 624) : b.stream n = b.word n := by
  rw [Buf.stream, if_pos h]

theorem Buf.stream_recurrence (b : Buf) (n : Nat) :
    b.stream (n + 624) = b.stream (n + 397) ^^^ mag (mix (b.stream n) (b.stream (n + 1))) := by
  rw [Buf.stream, if_neg (by omega), Nat.add_sub_cancel]
  simp only [Nat.reduceSubDiff]

theorem Buf.ofFn_stream (b : Buf) : (Vector.ofFn fun k : Fin 624 => b.stream k.val) = b :=
  Buf.ext_word fun k hk => by rw [Buf.word_ofFn _ hk, b.stream_of_lt hk]

/-- The twist of a buffer is the second window of its stream (R98). -/
theorem twist_eq_ofFn_stream (b : Buf) :
    twist b = Vector.ofFn fun k : Fin 624 => b.stream (624 + k.val) := by
  rw [← twist_stream b.stream_recurrence, b.ofFn_stream]

theorem Buf.stream_add_624 (b : Buf) {k : Nat} (h : k < 624) :
    b.stream (k + 624) = (twist b).word k := by
  rw [twist_eq_ofFn_stream, Buf.word_ofFn _ h, Nat.add_comm]

/-- The recurrence for a word of the twist: the words it reads past word 623 are new ones (R94). -/
theorem word_twist (b : Buf) {k : Nat} (hk : k < 624) :
    (twist b).word k = b.stream (k + 397) ^^^ mag (mix (b.word k) (b.stream (k + 1))) := by
  rw [← b.stream_add_624 hk, b.stream_recurrence, b.stream_of_lt hk]

/-- Settles O31: whether word k + 397 of the stream, and word k + 1, is an old or a new word. -/
theorem twistIsTheThreeSegments : Obligations.TwistIsTheThreeSegments := by
  intro b
  refine ⟨fun k hk => ?_, fun k low high => ?_, ?_⟩
  · rw [word_twist b (by omega), b.stream_of_lt (by omega), b.stream_of_lt (by omega)]
    rfl
  · obtain ⟨m, rfl⟩ := Nat.exists_eq_add_of_le' low
    rw [word_twist b (by omega), b.stream_add_624 (by omega), b.stream_of_lt (by omega),
      Nat.add_sub_cancel]
    rfl
  · rw [word_twist b (by decide), b.stream_add_624 (k := 396) (by decide),
      b.stream_add_624 (k := 0) (by decide)]
    rfl

/-- Settles O36: the words from j on are themselves a stream. -/
theorem twistSlidesTheWindow : Obligations.TwistSlidesTheWindow := by
  intro x recurrence j
  have step (n : Nat) : x (n + 624) = x (n + 397) ^^^ mag (mix (x n) (x (n + 1))) := recurrence n
  have slid := twist_stream (x := fun n => x (j + n)) fun n => by
    simpa [Nat.add_assoc] using step (j + n)
  simpa [Nat.add_assoc] using slid

/-! ### The untwist of a window of a stream (R95, R106) -/

section
variable {x : Nat → Word}
  (recurrence : ∀ n, x (n + 624) = x (n + 397) ^^^ mag (mix (x n) (x (n + 1))))
include recurrence

/-- Two words of a stream give back the mixing word between them (R95, R96). -/
theorem unmag_stream (n : Nat) : unmag (x (n + 624) ^^^ x (n + 397)) = mix (x n) (x (n + 1)) := by
  rw [recurrence, BitVec.xor_comm, ← BitVec.xor_assoc, BitVec.xor_self, BitVec.zero_xor, unmag_mag]

variable (first : x 0 &&& lowerMask = unmag (x 623 ^^^ x 396) &&& lowerMask)
include first

/-- A backward step on the ring of the words from n + 1 on restores word n: its upper bit by the
recurrence at n, its lower bits by that at n - 1, or by consistency where there is none (R95). -/
theorem word_untwistAt_stream {n : Nat} {b : Buf}
    (ring : ∀ j, n + 1 ≤ j → j < n + 1 + 624 → b.word j = x j) : (untwistAt b n).word n = x n := by
  have high : unmag (b.word n ^^^ b.word (n + 397)) = mix (x n) (x (n + 1)) := by
    rw [← b.word_mod, ← Nat.add_mod_right, b.word_mod, ring _ (by simp) (by simp),
      ring _ (by simp) (by omega), unmag_stream recurrence]
  have low : unmag (b.word (n + 623) ^^^ b.word (n + 396)) &&& lowerMask = x n &&& lowerMask := by
    rw [ring _ (by simp) (by omega), ring _ (by simp) (by omega)]
    cases n with
    | zero => exact first.symm
    | succ n =>
      have before := unmag_stream recurrence n
      simp only [Nat.add_assoc, Nat.reduceAdd]
      rw [before, mix_and_lowerMask]
  have upper := getLsbD_mix (x n) (x (n + 1)) (j := 31) (by decide)
  rw [word_untwistAt_same, high, mix_congr (upper.trans (if_pos rfl)) low, mix_self]

/-- BUF is a ring of 624 words: the backward loop moves it from the words from n on to those from 0
on (R95). -/
theorem word_untwistSteps_stream (n : Nat) {b : Buf}
    (ring : ∀ j, n ≤ j → j < n + 624 → b.word j = x j) {j : Nat} (hj : j < 624) :
    (untwistSteps n b).word j = x j := by
  induction n generalizing b with
  | zero => exact ring j (by omega) (by omega)
  | succ n ih =>
    refine ih fun i low high => ?_
    by_cases new : i = n
    · rw [new, word_untwistAt_stream recurrence first ring]
    · rw [word_untwistAt_other _ (by omega), ring i (by omega) (by omega)]

/-- The untwist slides the second window back to the first, where that is consistent (R106). -/
theorem untwist_stream : untwist (Vector.ofFn fun k : Fin 624 => x (624 + k.val)) =
    Vector.ofFn fun k : Fin 624 => x k.val := by
  refine Buf.ext_word fun k hk => ?_
  rw [untwist_eq_untwistSteps, word_untwistSteps_stream recurrence first 624 _ hk,
    Buf.word_ofFn _ hk]
  intro j low high
  obtain ⟨i, rfl⟩ := Nat.exists_eq_add_of_le low
  rw [← Buf.word_mod, Nat.add_mod_left, Buf.word_mod, Buf.word_ofFn _ (by omega)]

end

/-! ### The round trips (R97 (c)) -/

theorem untwist_twist {b : Buf} (consistent : b.Consistent) : untwist (twist b) = b := by
  have first :
      b.stream 0 &&& lowerMask = unmag (b.stream 623 ^^^ b.stream 396) &&& lowerMask := by
    rwa [b.stream_of_lt (by decide), b.stream_of_lt (by decide), b.stream_of_lt (by decide)]
  rw [twist_eq_ofFn_stream, untwist_stream b.stream_recurrence first, b.ofFn_stream]

/-- The consistent buffers are finitely many, and twist maps them to themselves. -/
theorem twist_untwist {b : Buf} (consistent : b.Consistent) : twist (untwist b) = b := by
  have : Finite Buf := Finite.of_injective (fun (b : Buf) (k : Fin 624) => b.word k.val)
    fun _ _ same => Buf.ext_word fun k hk => congrFun same ⟨k, hk⟩
  have inverse : Function.RightInverse (Subtype.map untwist fun b _ => untwist_consistent b)
      (Subtype.map twist fun b (_ : b.Consistent) => twist_consistent b) :=
    rightInverse_of_finite fun b => Subtype.ext (untwist_twist b.property)
  exact congrArg Subtype.val (inverse ⟨b, consistent⟩)

/-- Settles O33: a round trip ends in an output, which is consistent, and on the consistent buffers
twist and untwist are inverse to each other. -/
theorem twistRoundTripsExactlyWhenConsistent : Obligations.TwistRoundTripsExactlyWhenConsistent :=
  fun b => ⟨⟨fun same => same ▸ untwist_consistent (twist b), untwist_twist⟩,
    ⟨fun same => same ▸ twist_consistent (untwist b), twist_untwist⟩⟩

/-! ### The commands (R99, R100) -/

/-- Settles O38: each effect tests READY and applies the engine. -/
theorem twistCommandsApplyTheEngine : Obligations.TwistCommandsApplyTheEngine := by
  refine ⟨rfl, rfl, fun s notFatal => ⟨fun notReady => ?_, fun ready => ?_⟩⟩
  · have refused {i : Instr} (error : effectOf i s = .error .insufficientData) :
        Completes (exec i s) (s.failed 1) :=
      completes_of_effectOf_error notFatal error (by decide) (by decide)
    exact ⟨refused (if_neg (by simp [notReady])), refused (if_neg (by simp [notReady]))⟩
  · exact ⟨completes_of_effectOf (t := s.regenerate) notFatal (if_pos ready),
      completes_of_effectOf (t := s.setBuf (untwist s.buf)) notFatal (if_pos ready)⟩

theorem exec_twist {s : State} (notFatal : s.fatal = false) (ready : s.ready = true) :
    exec .twist s = .next (s.regenerate.complete .ok) :=
  exec_of_effectOf notFatal (if_pos ready)

theorem exec_untwist {s : State} (notFatal : s.fatal = false) (ready : s.ready = true) :
    exec .untwist s = .next ((s.setBuf (untwist s.buf)).complete .ok) :=
  exec_of_effectOf notFatal (if_pos ready)

/-- Settles O39: a ready block of the invariant holds a consistent buffer, and the first command
leaves it ready. -/
theorem twistCommandsUndoEachOther : Obligations.TwistCommandsUndoEachOther := by
  intro s inv ready
  have sound := (s.inv_iff.mp inv).1
  have notFatal := sound.notFatal
  obtain ⟨-, -, -, consistent⟩ := sound.readySound ready
  exact ⟨⟨_, _, exec_twist notFatal ready, exec_untwist (by simp [notFatal]) ready,
      untwist_twist consistent⟩,
    ⟨_, _, exec_untwist notFatal ready, exec_twist (by simp [notFatal]) ready,
      twist_untwist consistent⟩⟩

end Sys2Proof.Machine
end

section
/-! The statements on the predictor: the untwist and the commands on the windows of a stream, and
PREDICT and OFFSET as moves of the stream position (R101 to R106). -/

namespace Sys2Proof.Machine

/-! ### The untwist of a later window (R102, R106) -/

/-- The window from word 625 on slides back to that from word 1 on, which the recurrence at word 0
makes consistent (R106). -/
theorem untwist_stream_from_one {x : Nat → Word}
    (recurrence : ∀ n, x (n + 624) = x (n + 397) ^^^ mag (mix (x n) (x (n + 1)))) :
    untwist (Vector.ofFn fun k : Fin 624 => x (625 + k.val)) =
      Vector.ofFn fun k : Fin 624 => x (1 + k.val) := by
  have first : x 1 &&& lowerMask = unmag (x 624 ^^^ x 397) &&& lowerMask := by
    rw [unmag_stream recurrence 0, mix_and_lowerMask]
  have slid := untwist_stream (x := fun n => x (1 + n))
    (fun n => by simpa only [Nat.add_assoc] using recurrence (1 + n)) first
  simpa only [← Nat.add_assoc] using slid

/-- Settles O37: the words from j - 1 on are themselves a stream. -/
theorem untwistSlidesTheWindowBack : Obligations.UntwistSlidesTheWindowBack := by
  intro x recurrence j hj
  obtain ⟨i, rfl⟩ := Nat.exists_eq_add_of_le' hj
  have step (n : Nat) : x (n + 624) = x (n + 397) ^^^ mag (mix (x n) (x (n + 1))) := recurrence n
  have slid := untwist_stream_from_one (x := fun n => x (i + n)) fun n => by
    simpa only [Nat.add_assoc] using step (i + n)
  have last (k : Nat) : i + (625 + k) = i + 1 + 624 + k := by omega
  simpa only [last, ← Nat.add_assoc] using slid

/-- On a stream over the integers the untwist slides every window back by 624 (R102, R106). -/
theorem untwist_window {x : Int → Word} (stream : Stream x) (j : Int) :
    untwist (window x j) = window x (j - 624) := by
  have slid := untwist_stream_from_one (x := fun n => x (j - 625 + n)) fun n => by
    simpa [add_assoc] using stream (j - 625 + n)
  have last (k : Fin 624) : j - 625 + (625 + k.val : Nat) = j + k.val := by omega
  have one (k : Fin 624) : j - 625 + (1 + k.val : Nat) = j - 624 + k.val := by omega
  simpa only [window, last, one] using slid

theorem untwistTimes_window {x : Int → Word} (stream : Stream x) (n : Nat) (j : Int) :
    untwistTimes n (window x j) = window x (j - 624 * n) := by
  induction n generalizing j with
  | zero => simp [untwistTimes]
  | succ n ih =>
    rw [untwistTimes, untwist_window stream, ih]
    congr 1
    push_cast
    ring

/-- Settles O44: TWIST and UNTWIST slide the window and set or keep CURSOR. -/
theorem twistCommandsMoveThePosition : Obligations.TwistCommandsMoveThePosition := by
  intro x j s stream notFatal ready buf
  refine ⟨⟨_, exec_twist notFatal ready, ready, by simp [notFatal], ?_, rfl⟩,
    ⟨_, exec_untwist notFatal ready, ready, by simp [notFatal], ?_, rfl⟩⟩
  · simpa [buf] using twist_window stream j
  · simpa [buf] using untwist_window stream j

/-! ### PREDICT (R101, R103) -/

/-- With every word consumed PREDICT twists first (R103). -/
theorem predictEffect_of_consumed {s : State} (ready : s.ready = true)
    (consumed : s.cursor.val = 624) : predictEffect s = .ok { s with
      buf := twist s.buf, cursor := 1, res := harden ((twist s.buf).word 0) } := by
  have refreshed : s.refreshed = s.regenerate := if_pos consumed
  rw [predictEffect, if_pos ready, predictStep, predictedWord, refreshed]
  rfl

/-- With a word left PREDICT consumes that word (R103). -/
theorem predictEffect_of_unconsumed {s : State} (ready : s.ready = true)
    (left : s.cursor.val < 624) : predictEffect s = .ok { s with
      cursor := Fin.ofNat 625 (s.cursor.val + 1), res := harden (s.buf.word s.cursor.val) } := by
  have refreshed : s.refreshed = s := if_neg left.ne
  rw [predictEffect, if_pos ready, predictStep, predictedWord, refreshed]
  rfl

/-- Settles O40: PREDICT's effect tests READY, and then CURSOR. -/
theorem predictReturnsTheNextOutput : Obligations.PredictReturnsTheNextOutput := by
  refine ⟨rfl, fun s notFatal => ⟨fun notReady => ?_, fun ready consumed => ?_,
    fun ready left => ?_⟩⟩
  · exact completes_of_effectOf_error (c := .insufficientData) notFatal
      (if_neg (by simp [notReady])) (by decide) (by decide)
  · exact completes_of_effectOf notFatal (predictEffect_of_consumed ready consumed)
  · exact ⟨_, Nat.mod_eq_of_lt (by omega),
      completes_of_effectOf notFatal (predictEffect_of_unconsumed ready left)⟩

/-! ### OFFSET (R104) -/

theorem predictSteps_eq_iterate (n : Nat) (s : State) : predictSteps n s = predictStep^[n] s := by
  induction n generalizing s with
  | zero => rfl
  | succ n ih => exact ih (predictStep s)

theorem untwistTimes_eq_iterate (n : Nat) (b : Buf) : untwistTimes n b = untwist^[n] b := by
  induction n generalizing b with
  | zero => rfl
  | succ n ih => exact ih (untwist b)

/-- OFFSET 0 has no effect, ready or not (R104). -/
theorem offsetEffect_of_zero {s : State} (zero : s.opa.toInt = 0) : offsetEffect s = .ok s :=
  if_pos zero

/-- A move needs READY (R104). -/
theorem offsetEffect_of_notReady {s : State} (nonzero : s.opa.toInt ≠ 0)
    (notReady : s.ready = false) : offsetEffect s = .error .insufficientData :=
  (if_neg nonzero).trans (if_pos notReady)

/-- OFFSET forward runs one predict step per output (R104). -/
theorem offsetEffect_of_pos {s : State} (forward : 0 < s.opa.toInt) (ready : s.ready = true) :
    offsetEffect s = .ok (predictSteps s.opa.toInt.toNat s) := by
  simp [offsetEffect, offsetOperand, forward, forward.ne', ready]

/-- OFFSET back untwists past the target and catches up (R104). -/
theorem offsetEffect_of_neg {s : State} {m : Nat} (back : s.opa.toInt < 0)
    (ready : s.ready = true) (hm : (m : Int) = -s.opa.toInt) :
    offsetEffect s = .ok (predictSteps (624 - m % 624)
      (s.setBuf (untwistTimes (m / 624 + 1) s.buf))) := by
  simp [offsetEffect, offsetOperand, untwistCount, catchUpCount, back.ne, back.not_gt, ready, ← hm]

/-- Settles O41: OFFSET's effect by the sign of n; its loops are iterations, and they write BUF and
CURSOR only. -/
theorem offsetRunsItsCounts : Obligations.OffsetRunsItsCounts := by
  refine ⟨rfl, fun s notFatal => ⟨fun zero => ?_, fun nonzero notReady => ?_,
    fun forward ready => ?_, fun back ready m hm => ?_⟩⟩
  · exact completes_of_effectOf notFatal (offsetEffect_of_zero zero)
  · exact completes_of_effectOf_error (i := .offset) notFatal
      (offsetEffect_of_notReady nonzero notReady) (by decide) (by decide)
  · rw [← predictSteps_eq_iterate]
    refine completes_of_effectOf notFatal ((offsetEffect_of_pos forward ready).trans ?_)
    exact congrArg _ (predictSteps_frame _ s)
  · dsimp only
    rw [← untwistTimes_eq_iterate, ← predictSteps_eq_iterate]
    refine completes_of_effectOf notFatal ((offsetEffect_of_neg back ready hm).trans ?_)
    exact congrArg _ (predictSteps_frame _ (s.setBuf _))

/-! ### The stream position (R102, R105) -/

/-- On the stream x the block stands at position p: BUF is a window of x, and CURSOR points into it
at word p of x, or one past its end (R102). -/
def State.StandsAt (s : State) (x : Int → Word) (p : Int) : Prop :=
  ∃ j : Int, s.buf = window x j ∧ j + s.cursor.val = p

section
variable {x : Int → Word} {p : Int} {s : State}

/-- While a word is left, moving CURSOR moves the position (R101). -/
theorem State.StandsAt.advance (h : s.StandsAt x p) (left : s.cursor.val < 624) :
    s.advance.StandsAt x (p + 1) := by
  obtain ⟨j, buf, position⟩ := h
  have moved : s.advance.cursor.val = s.cursor.val + 1 := Nat.mod_eq_of_lt (by omega)
  exact ⟨j, buf, by omega⟩

variable (stream : Stream x)
include stream

/-- The lazy twist moves the window up and CURSOR back by 624 words (R101, R102). -/
theorem State.StandsAt.refreshed (h : s.StandsAt x p) : s.refreshed.StandsAt x p := by
  obtain ⟨j, buf, position⟩ := h
  rcases s.refreshed_cases with ⟨consumed, refreshed⟩ | ⟨-, refreshed⟩ <;> rw [refreshed]
  · exact ⟨j + 624, by rw [State.regenerate_buf, buf, twist_window stream],
      by simp only [State.regenerate_cursor, Fin.val_zero]; omega⟩
  · exact ⟨j, buf, position⟩

/-- The next output is that of the word at the position (R101, R102). -/
theorem State.StandsAt.predictedWord_eq (h : s.StandsAt x p) : predictedWord s = harden (x p) := by
  obtain ⟨j, buf, rfl⟩ := h.refreshed stream
  rw [predictedWord, buf, window, Buf.word_ofFn _ s.refreshed_cursor_lt]

theorem State.StandsAt.predictStep (h : s.StandsAt x p) : (predictStep s).StandsAt x (p + 1) :=
  (h.refreshed stream).advance s.refreshed_cursor_lt

theorem State.StandsAt.predictSteps (h : s.StandsAt x p) (n : Nat) :
    (predictSteps n s).StandsAt x (p + n) := by
  induction n generalizing s p with
  | zero => simpa [Machine.predictSteps] using h
  | succ n ih =>
    have moved := ih (h.predictStep stream)
    rwa [add_assoc, add_comm 1, ← Nat.cast_succ] at moved

/-- Each untwist moves the position back by 624: CURSOR stays (R102). -/
theorem State.StandsAt.untwistTimes (h : s.StandsAt x p) (n : Nat) :
    (s.setBuf (untwistTimes n s.buf)).StandsAt x (p - 624 * n) := by
  obtain ⟨j, buf, position⟩ := h
  refine ⟨j - 624 * n, ?_, ?_⟩
  · rw [State.setBuf_buf, buf, untwistTimes_window stream]
  · rw [State.setBuf_cursor]
    omega

/-- OFFSET writes BUF and CURSOR only, and moves the position by n: back by m is back by
624 (m / 624 + 1) and forward by 624 - m mod 624 (R105). -/
theorem State.StandsAt.offsetEffect_ok (h : s.StandsAt x p) (ready : s.ready = true) :
    ∃ t, offsetEffect s = .ok t ∧ t = { s with buf := t.buf, cursor := t.cursor } ∧
      t.StandsAt x (p + s.opa.toInt) := by
  rcases lt_trichotomy s.opa.toInt 0 with back | zero | forward
  · obtain ⟨m, hm⟩ := Int.eq_ofNat_of_zero_le (by omega : 0 ≤ -s.opa.toInt)
    refine ⟨_, offsetEffect_of_neg back ready hm.symm, predictSteps_frame _ (s.setBuf _), ?_⟩
    have moved := (h.untwistTimes stream (m / 624 + 1)).predictSteps stream (624 - m % 624)
    have net : p - 624 * (m / 624 + 1 : Nat) + (624 - m % 624 : Nat) = p + s.opa.toInt := by omega
    rwa [net] at moved
  · exact ⟨s, offsetEffect_of_zero zero, rfl, by rwa [zero, add_zero]⟩
  · refine ⟨_, offsetEffect_of_pos forward ready, predictSteps_frame _ s, ?_⟩
    have moved := h.predictSteps stream s.opa.toInt.toNat
    rwa [Int.toNat_of_nonneg forward.le] at moved

end

/-- Settles O42: PREDICT returns the word at the position and takes one predict step. -/
theorem predictFollowsTheStream : Obligations.PredictFollowsTheStream := by
  intro x j s stream notFatal ready buf
  have here : s.StandsAt x (j + s.cursor.val) := ⟨j, buf, rfl⟩
  obtain ⟨j', buf', position'⟩ := here.predictStep stream
  refine ⟨_, j', exec_predict notFatal ready, here.predictedWord_eq stream, ?_, ?_, buf', position'⟩
  · rw [predictStep_frame]
    exact ready
  · rw [predictStep_frame]
    simpa using notFatal

/-- Settles O43: OFFSET's effect moves the position and keeps everything but BUF and CURSOR. -/
theorem offsetMovesThePosition : Obligations.OffsetMovesThePosition := by
  intro x j s stream notFatal ready buf
  have here : s.StandsAt x (j + s.cursor.val) := ⟨j, buf, rfl⟩
  obtain ⟨t, effect, frame, j', buf', position'⟩ := here.offsetEffect_ok stream ready
  refine ⟨_, j', exec_of_effectOf notFatal effect, ?_, ?_, ?_, buf', position'⟩ <;> rw [frame]
  · rfl
  · exact ready
  · simpa using notFatal

end Sys2Proof.Machine
end

section
/-! The statements on the exceptions: which cause raises which result code (R107, R110), and the
fatal lock (R109). -/

namespace Sys2Proof.Machine

/-! ### The causes of each result code (R107, R110) -/

/-- The causes of a code: the command and the state it runs in. No decoded command raises OK or
ILLEGAL_COMMAND (R107, R110). -/
def ResultCode.Cause (c : ResultCode) (i : Instr) (s : State) : Prop :=
  match c with
  | .ok | .illegalCommand => False
  | .insufficientData =>
    ((∃ fm, i = .check fm) ∧ s.ledger.toNat < 19968) ∨
      ((i = .predict ∨ i = .twist ∨ i = .untwist ∨ (i = .offset ∧ s.opa ≠ 0)) ∧ s.ready = false)
  | .invariantViolation =>
    i = .check false ∧ 19968 ≤ s.ledger.toNat ∧ s.mode = .direct ∧ s.ready = false ∧
      s.fill.val < 624
  | .matrixUnimplemented =>
    ∃ fm, i = .check fm ∧ 19968 ≤ s.ledger.toNat ∧ (s.mode = .matrix ∨ fm = true)
  | .badOperand =>
    ((i = .ixshr 0 ∨ i = .ixshl 0) ∧ s.opb ≠ 0) ∨
      ∃ width, i = .submitp width ∧ (width = 0 ∨ width % 32 = 0)
  | .wrongState =>
    s.ready = true ∧
      (i = .submit ∨ ∃ width, i = .submitp width ∧ width ≠ 0 ∧ width % 32 ≠ 0)

/-! #### When an effect fails, and how -/

section
variable {s : State} {c : ResultCode}

/-- The solver fails only with shift 0 and a mask (R76). -/
theorem solve_eq_none_iff {y m : Word} {sh : Nat} {dir : Direction} :
    solve y sh m dir = none ↔ sh = 0 ∧ m ≠ 0 := by
  rcases Nat.eq_zero_or_pos sh with rfl | shift
  · rcases eq_or_ne m 0 with rfl | mask
    · rw [solve_zero_zero]
      simp
    · simpa [solve_zero_of_mask_ne_zero mask] using mask
  · simp [solve_eq_iterate shift, shift.ne']

/-- An inverse step fails where the solver does (R82, R83). -/
theorem solveEffect_eq_error_iff {sh : Nat} {dir : Direction} :
    solveEffect sh dir s = .error c ↔ .badOperand = c ∧ sh = 0 ∧ s.opb ≠ 0 := by
  rw [← solve_eq_none_iff (y := s.opa) (dir := dir), solveEffect, operandA, operandB]
  cases solve s.opa sh s.opb dir <;> simp

/-- SUBMIT fails only on READY (R87). -/
theorem submitEffect_eq_error_iff :
    submitEffect s = .error c ↔ .wrongState = c ∧ s.ready = true := by
  unfold submitEffect
  split
  next ready => simp [ready]
  next notReady => cases s.mode <;> simp [notReady]

/-- SUBMITP fails on its width, and then on READY (R88). -/
theorem submitpEffect_eq_error_iff {width : Nat} :
    submitpEffect width s = .error c ↔
      (.badOperand = c ∧ (width = 0 ∨ width % 32 = 0)) ∨
        (.wrongState = c ∧ s.ready = true ∧ width ≠ 0 ∧ width % 32 ≠ 0) := by
  rw [submitpEffect, ← not_or, ← wordMultiple_iff]
  cases wordMultiple width <;> cases s.ready <;> simp

/-- CHECK fails by the first of its tests that does not pass (R90). -/
theorem checkEffect_eq_error_iff {fm : Bool} :
    checkEffect fm s = .error c ↔
      (.insufficientData = c ∧ s.ledger.toNat < 19968) ∨
        (.matrixUnimplemented = c ∧ 19968 ≤ s.ledger.toNat ∧ (s.mode = .matrix ∨ fm = true)) ∨
        (.invariantViolation = c ∧ fm = false ∧ 19968 ≤ s.ledger.toNat ∧ s.mode = .direct ∧
          s.ready = false ∧ s.fill.val < 624) := by
  have direct : s.mode = .direct ↔ ¬ s.mode = .matrix := by cases s.mode <;> decide
  simp only [checkEffect, ite_eq_iff, Except.error.injEq, reduceCtorEq, threshold_eq, bufWords_eq,
    direct, ← Nat.not_lt, ← Bool.not_eq_true]
  tauto

/-- A command that needs READY and nothing else fails only without it (R99, R100, R103). -/
theorem readyTest_eq_error_iff {t : State} :
    (if s.ready then .ok t else .error .insufficientData : Except ResultCode State) = .error c ↔
      .insufficientData = c ∧ s.ready = false := by
  cases s.ready <;> simp

/-- OFFSET needs READY unless OPA = 0 (R104). -/
theorem offsetEffect_eq_error_iff :
    offsetEffect s = .error c ↔ .insufficientData = c ∧ s.opa ≠ 0 ∧ s.ready = false := by
  have zero : offsetOperand s = 0 ↔ s.opa = 0 := BitVec.toInt_inj (y := 0#32)
  simp only [offsetEffect, zero, ite_eq_iff, Except.error.injEq, reduceCtorEq]
  tauto

/-- A command's effect fails with a code exactly for the causes of that code (R107, R110). -/
theorem effectOf_eq_error_iff (i : Instr) : effectOf i s = .error c ↔ c.Cause i s := by
  cases i with
  | and | or | xor | shl | shr | xshr | xshl | temper | untemper | clear =>
    cases c <;> simp [effectOf, ResultCode.Cause]
  | ixshr | ixshl | submit | submitp | check | twist | untwist | predict | offset =>
    simp only [effectOf, twistEffect, untwistEffect, predictEffect, solveEffect_eq_error_iff,
      submitEffect_eq_error_iff, submitpEffect_eq_error_iff, checkEffect_eq_error_iff,
      readyTest_eq_error_iff, offsetEffect_eq_error_iff]
    cases c <;> simp [ResultCode.Cause]

end

/-- The codes are told apart by their numbers (R107). -/
theorem ResultCode.code_injective : Function.Injective ResultCode.code := by
  intro c d
  cases c <;> cases d <;> decide

/-- ERR shows a failure's code exactly where the effect fails with it (R108). -/
theorem exec_err_eq_code_iff {i : Instr} {s t : State} {c : ResultCode} (notFatal : s.fatal = false)
    (h : exec i s = .next t) (failure : c ≠ .ok) : t.err = c.code ↔ c.Cause i s := by
  rw [exec_eq_runCommand] at h
  injection h with h
  subst h
  rw [← effectOf_eq_error_iff]
  cases he : effectOf i s with
  | ok s' =>
    rw [runCommand_ok notFatal he, State.complete_err, ResultCode.code_injective.eq_iff]
    simpa using failure.symm
  | error d =>
    rw [runCommand_error notFatal he, State.complete_err, ResultCode.code_injective.eq_iff,
      Except.error.injEq]

/-! ### A completion in the sequencer's turn (R108, R109) -/

/-- In the sequencer's turn a step is the execute procedure, for a legal and for an illegal word
(R60, R108). -/
theorem step_eq_runCommand {s : State} (turn : sequencerTurn s = true) :
    ∃ effect, step s = .next (runCommand s effect) := by
  rcases step_cases s with ⟨-, i, -, h⟩ | ⟨-, -, h⟩ | ⟨host, -⟩
  · exact ⟨_, h.trans (exec_eq_runCommand i s)⟩
  · exact ⟨_, h⟩
  · exact absurd (turn.symm.trans host) (by decide)

/-- Under the fatal lock a step in the sequencer's turn is the completion with code 2 (R109). -/
theorem step_of_fatal {s : State} (locked : s.fatal = true) (turn : sequencerTurn s = true) :
    step s = .next (s.complete .invariantViolation) := by
  obtain ⟨effect, h⟩ := step_eq_runCommand turn
  rw [h, runCommand_fatal locked]

/-- Whatever a command does, it ends in a completion (R108). -/
theorem runCommand_eq_complete (s : State) (effect : State → Except ResultCode State) :
    ∃ (s' : State) (c : ResultCode), runCommand s effect = s'.complete c := by
  rcases runCommand_cases s effect with ⟨-, h⟩ | ⟨-, c, -, h⟩ | ⟨-, s', -, h⟩ <;>
    exact ⟨_, _, h⟩

/-- No command reports a code above 6 (R26). -/
theorem runCommand_err_le_six (s : State) (effect : State → Except ResultCode State) :
    (runCommand s effect).err.toNat ≤ 6 := by
  obtain ⟨s', c, h⟩ := runCommand_eq_complete s effect
  rw [h]
  exact c.code_le_six

/-- A completion with code 2 sets FATAL (R108, R109). -/
theorem runCommand_fatal_of_err_eq_two {s : State} {effect : State → Except ResultCode State}
    (violated : (runCommand s effect).err = 2) : (runCommand s effect).fatal = true := by
  obtain ⟨s', c, h⟩ := runCommand_eq_complete s effect
  rw [h] at violated ⊢
  rw [State.complete_fatal, ← c.code_beq_two, ← State.complete_err s', violated]
  exact Bool.or_true _

/-- Under the fatal lock no step but the reset input clears FATAL (R25, R109). -/
theorem step_keeps_fatal {s t : State} (locked : s.fatal = true) (h : step s = .next t)
    (noReset : ∀ i rest, s.inputs ≠ .reset i :: rest) : t.fatal = true := by
  cases turn : sequencerTurn s with
  | true =>
    rw [step_of_fatal locked turn] at h
    cases h
    simp
  | false =>
    obtain rfl : hostTurn s = t := by simpa [step, turn] using h
    exact (hostTurn_sameController noReset).fatal.trans locked

/-- Settles O9: each code is reported where the effect fails with it, an illegal word completes with
code 4, and the lock answers every word with code 2. -/
theorem resultCodesHaveTheirCauses : Obligations.ResultCodesHaveTheirCauses := by
  refine ⟨fun i s t notFatal h => ?_, fun s t notFatal turn ⟨e, refused⟩ h => ?_,
    fun s t locked turn h => ?_⟩
  · have reports (c : ResultCode) (failure : c ≠ .ok) : t.err = c.code ↔ c.Cause i s :=
      exec_err_eq_code_iff notFatal h failure
    have bounded : t.err.toNat ≤ 6 := by
      rw [exec_eq_runCommand] at h
      cases h
      exact runCommand_err_le_six s _
    exact ⟨reports .insufficientData nofun, reports .invariantViolation nofun,
      reports .matrixUnimplemented nofun, reports .badOperand nofun, reports .wrongState nofun,
      (reports .illegalCommand nofun).mp, bounded⟩
  · rw [step_of_illegal notFatal turn refused] at h
    cases h
    rfl
  · rw [step_of_fatal locked turn] at h
    cases h
    rfl

/-- Settles O10: code 2 and FATAL come together, the lock leaves only the completion, the bus is as
ever, and a sound controller never raises code 2. -/
theorem fatalLockHoldsUntilReset : Obligations.FatalLockHoldsUntilReset := by
  refine ⟨fun s t turn h violated => ?_, fun s locked turn => ?_,
    fun s offset rest r _ idle next reached => ?_, fun s v rest _ idle => ?_,
    fun s t locked h cleared => ?_, fun s t inv h => ?_⟩
  · obtain ⟨effect, ran⟩ := step_eq_runCommand turn
    rw [ran] at h
    cases h
    exact runCommand_fatal_of_err_eq_two violated
  · rw [step_of_fatal locked turn, s.complete_of_ne_ok (by decide)]
    exact ⟨_, rfl, by simp [State.failed, locked, ResultCode.code]⟩
  · rw [step_access next (.inl idle), busAccess_read_idle (s := s.hostMoved rest) idle,
      s.idleAnswer_hostMoved, reached]
    exact ⟨_, rfl, rfl⟩
  · obtain ⟨storeOpa, storeOpb, -⟩ := operandWritesStoreOnlyWhenIdle s v rest
    exact ⟨fun next => ⟨_, storeOpa next idle, rfl, rfl⟩,
      fun next => ⟨_, storeOpb next idle, rfl, rfl⟩⟩
  · by_contra! noReset
    exact absurd ((step_keeps_fatal locked h noReset).symm.trans cleared) (by decide)
  · exact (t.inv_iff.mp (everyStepKeepsTheInvariant s t inv h)).1.notFatal

end Sys2Proof.Machine
end

section
/-! The statements on reset, polling and the reads with BUSY = 1: each is one host's turn, and a
busy block only waits, so that its command comes to completion. -/

namespace Sys2Proof.Machine

/-! ### The host's turn by its event (R124, R134) -/

/-- While no command is due to complete, a step with an event waiting is the host's turn (R134). -/
theorem step_hostTurn {s : State} {e : HostEvent} {rest : List HostEvent}
    (next : s.inputs = e :: rest) (turn : s.busy = false ∨ s.latency ≠ 0) :
    step s = .next (hostTurn s) := by
  have host : sequencerTurn s = false := by
    rcases turn with h | h <;> simp [sequencerTurn, next, h]
  simp [step, host]

/-- In the host's turn the reset input takes effect, also while BUSY = 1 (R124). -/
theorem step_reset {s : State} {i : Option Access} {rest : List HostEvent}
    (next : s.inputs = .reset i :: rest) (turn : s.busy = false ∨ s.latency ≠ 0) :
    step s = .next (resetInput s rest i) := by
  rw [step_hostTurn next turn, hostTurn, next]

/-- Settles O47: BUF is the zero buffer, and the other fields are as written. -/
theorem resetValuesAreTheSpecs : Obligations.ResetValuesAreTheSpecs :=
  ⟨rfl, rfl, rfl, fun k _ => Buf.word_zero k, rfl, rfl, rfl, rfl, rfl, rfl, rfl, rfl, rfl, rfl, rfl⟩

/-- Settles O48: the step is the reset input, which keeps the response unless an access was in
progress. -/
theorem resetInputAbandonsTheCommand : Obligations.ResetInputAbandonsTheCommand := by
  intro s i rest next turn
  refine ⟨_, _, (step_reset next turn).trans (congrArg _ (resetInput_frame s rest i)), ?_⟩
  rintro rfl
  rfl

/-! ### Reads with BUSY = 1 (R130, R131) -/

/-- With BUSY = 1 a read answers the register's busy word and uses up one free value (R131). -/
theorem readRegister_busy {s : State} (busy : s.busy = true) (r : Register) :
    readRegister s r = (s.respond (.data (r.busyValue (Config.freeWord s.draws)))).draw := by
  simp [readRegister, busy]

/-- Bit 9 of STATUS reads 1 while BUSY = 1 (R131). -/
theorem getLsbD_busyStatus_nine (free : Word) : (busyStatus free).getLsbD 9 = true := by
  simp [busyStatus]

/-- A read that reaches a register is that register's read (R35). -/
theorem busAccess_read (s : State) (r : Register) :
    busAccess s (.read r.offset 32) = readRegister s r := by
  simp [busAccess, target_eq_some_iff.mpr ⟨rfl, rfl⟩]

/-- Settles O53: the step is the register's read with BUSY = 1, whose word the three offsets fix. -/
theorem busyReadsAreUnspecified : Obligations.BusyReadsAreUnspecified := by
  intro s offset rest r busy turn next reached
  obtain rfl : offset = r.offset := BitVec.eq_of_toNat_eq (registerAt_eq_some_iff.mp reached)
  refine ⟨r.busyValue (Config.freeWord s.draws), ?read, ?id, ?cmd, ?status⟩
  case read =>
    rw [step_access next (.inr turn), busAccess_read,
      readRegister_busy (s := s.hostMoved rest) busy]
    rfl
  all_goals
    intro place
    rw [place] at reached
    obtain rfl := Option.some.inj reached
  case id | cmd => rfl
  case status => exact getLsbD_busyStatus_nine _

/-- With BUSY = 1 a poll answers a word with bit 9 set and stays the next event (R130, R131). -/
theorem step_poll_busy {s : State} {rest : List HostEvent} (next : s.inputs = .poll :: rest)
    (busy : s.busy = true) (turn : s.latency ≠ 0) :
    step s = .next
      ((s.hostMoved s.inputs).respond (.data (busyStatus (Config.freeWord s.draws)))).draw := by
  rw [step_poll next (.inr turn), if_pos busy, ← next,
    readRegister_busy (s := s.hostMoved s.inputs) busy]
  rfl

/-- Settles O54: the step is the loop's read of STATUS, in full or with BUSY = 1. -/
theorem pollingEndsWithTheFullStatus : Obligations.PollingEndsWithTheFullStatus := by
  intro s rest next
  refine ⟨fun idle => ⟨step_poll_idle next idle, ?_⟩, fun busy turn => ?_⟩
  · obtain ⟨err, -, -, -, -, -, bitNine, -⟩ := statusShowsItsFields s
    exact ⟨bitNine.trans idle, err⟩
  · exact ⟨_, getLsbD_busyStatus_nine _, step_poll_busy next busy turn⟩

/-! ### Progress (R132, R133, R134) -/

/-- Settles O7: a step is a command's run, an illegal word's completion or the host's turn, and each
answers. -/
theorem everyStepAnswersANextState : Obligations.EveryStepAnswersANextState := by
  intro s
  rcases step_cases s with ⟨-, i, -, h⟩ | ⟨-, -, h⟩ | ⟨-, h⟩
  · exact ⟨_, h.trans (exec_eq_runCommand i s)⟩
  · exact ⟨_, h⟩
  · exact ⟨_, h⟩

/-- With BUSY = 1 a bus access changes only the response and the count of draws (R37, R38, R131). -/
theorem busAccess_busy {s : State} (busy : s.busy = true) (a : Access) :
    ∃ r d, busAccess s a = { s with response := r, draws := d } := by
  rcases busAccess_writes s a with ⟨_, idle, -⟩ | ⟨_, idle, -⟩ | ⟨_, idle, -⟩ | unchanged
  case inr.inr.inr => exact unchanged
  all_goals exact absurd (busy.symm.trans idle) (by decide)

/-- With BUSY = 1 a host's turn other than the reset input uses up one event of the latency, takes
no new event up, and changes nothing else but the model's own fields (R133, R134). -/
theorem hostTurn_busy {s : State} (busy : s.busy = true) (waiting : s.inputs ≠ [])
    (noReset : ∀ e ∈ s.inputs, ∀ i, e ≠ .reset i) :
    ∃ events r d, events ⊆ s.inputs ∧
      hostTurn s = { s with
        inputs := events, latency := s.latency - 1, response := r, draws := d } := by
  rcases hostTurn_cases s with
    ⟨empty, -⟩ | ⟨a, rest, next, h⟩ | ⟨rest, next, h⟩ | ⟨i, rest, next, -⟩
  · exact absurd empty waiting
  · obtain ⟨r, d, ha⟩ := busAccess_busy (s := s.hostMoved rest) busy a
    exact ⟨rest, r, d, by simp [next], h.trans ha⟩
  · rw [if_pos busy, ← next] at h
    obtain ⟨r, d, ha⟩ := busAccess_busy (s := s.hostMoved s.inputs) busy pollAccess
    exact ⟨s.inputs, r, d, List.Subset.refl _, h.trans ha⟩
  · exact absurd rfl (noReset (.reset i) (by simp [next]) i)

/-- Without a reset input a command in flight comes to the sequencer's turn within its latency, and
until then only the model's own fields change (R133, R134). -/
theorem run_to_sequencerTurn {s : State} (busy : s.busy = true)
    (noReset : ∀ e ∈ s.inputs, ∀ i, e ≠ .reset i) :
    ∃ k ≤ s.latency, ∃ u, core.run k s = .next u ∧ sequencerTurn u = true ∧
      ∃ events n r d, u = { s with inputs := events, latency := n, response := r, draws := d } := by
  generalize left : s.latency = n
  induction n generalizing s with
  | zero => exact ⟨0, le_rfl, s, rfl, by simp [sequencerTurn, busy, left], _, _, _, _, rfl⟩
  | succ n ih =>
    match next : s.inputs with
    | [] => exact ⟨0, Nat.zero_le _, s, rfl, by simp [sequencerTurn, busy, next], _, _, _, _, rfl⟩
    | e :: rest =>
      obtain ⟨events, r, d, fewer, moved⟩ := hostTurn_busy busy (by simp [next]) noReset
      have stepped := step_hostTurn next (.inr (by omega))
      rw [moved, left, Nat.add_sub_cancel] at stepped
      obtain ⟨k, bound, u, reached, turn, frame⟩ :=
        ih (s := { s with inputs := events, latency := n, response := r, draws := d }) busy
          (fun e he => noReset e (fewer he)) rfl
      exact ⟨1 + k, by omega, u, (run_add (run_one stepped) k).trans reached, turn, frame⟩

/-- Settles O57: the run to the sequencer's turn, and the completion in that turn. -/
theorem commandInFlightCompletes : Obligations.CommandInFlightCompletes := by
  intro s busy noReset
  obtain ⟨k, bound, u, reached, turn, events, n, r, d, rfl⟩ := run_to_sequencerTurn busy noReset
  obtain ⟨effect, executed⟩ := step_eq_runCommand turn
  exact ⟨k, bound, _, reached, turn, rfl, rfl, rfl, by constructor <;> rfl,
    _, executed, (runCommand_idle _ effect).1⟩

end Sys2Proof.Machine
end
